-- ==== Sys2Proof/Word.lean ====
section
/-!
DEFINITION. Sys2Proof/Word.lean: the word types of the block (00_scope.md R10, R11; 30_encoding.md R63, R65, R69):
bytes, 64-bit seconds, the cursor, operation words and the three kinds of word the opcode table decodes.
-/

namespace Sys2Proof

/-- R10: a byte is 8 bits. -/
abbrev Byte := BitVec 8

/-- R26, R61: epoch seconds, a 64-bit two's-complement signed count. -/
abbrev Seconds := BitVec 64

/-- R7 `NFIELDS`: the length of the time-field sequence. -/
abbrev nFields : Nat := 7

/-- R23, R70: the cursor's seven positions; 7 cannot be written down. -/
abbrev Cursor := Fin nFields

/-- R148: the largest 64-bit signed number of seconds, `2^63 - 1`. -/
def maxSeconds : Int := 9223372036854775807

/-- The smallest 64-bit signed number of seconds, `-2^63`. -/
def minSeconds : Int := -9223372036854775808

/-- R11: floor division by a positive divisor (Lean's `/` on `Int` is that one when the divisor is positive). -/
abbrev fdiv (a b : Int) : Int := a / b

/-- R11: the remainder of floor division, in `0 .. b - 1` for a positive divisor. -/
abbrev fmod (a b : Int) : Int := a % b

/-- R63, R71: an operation as the spec encodes it, the tuple `(opw; operands)`: the 4-bit canonical operation word
and the operands in the order the trace notation gives them. -/
structure OpWord where
  opw : BitVec 4
  operands : List Int
deriving DecidableEq, Repr

/-- The three things the block decodes (30_encoding.md, opening): an operation word (formats P and L, R61), the
command byte (format K, R65) and the cursor that selects a field (format F, R69). -/
inductive TableWord where
  | op (w : OpWord)
  | command (b : Byte)
  | field (c : BitVec 3)
deriving DecidableEq, Repr

end Sys2Proof
end

