-- ==== Sys2Proof/Machine/Calendar.lean ====
section
/-!
DEFINITION. Sys2Proof/Machine/Calendar.lean: epoch seconds to calendar fields (41_time_streamer.md R112) and BCD (R114).
-/

namespace Sys2Proof.Machine

/-- R112: the seven calendar fields; `year` counts from 1900, `month` from 0, `wday` 0 is Sunday. -/
structure CivilTime where
  year : Int
  month : Int
  mday : Int
  wday : Int
  hour : Int
  minute : Int
  second : Int
deriving DecidableEq, Repr

/-- R112: whole days since 1970-01-01. -/
def epochDays (t : Int) : Int := fdiv t 86400

/-- R112: the second of the day, 0..86399. -/
def secondOfDay (t : Int) : Int := fmod t 86400

/-- R112 `doe`: the day of the 400-year era that starts on 0000-03-01. -/
def dayOfEra (days : Int) : Int := fmod (days + 719468) 146097

/-- R112 `yoe`: the year of the era, 0..399. -/
def yearOfEra (doe : Int) : Int :=
  (doe - doe / 1460 + doe / 36524 - doe / 146096) / 365

/-- R112 `doy`: the day of the year that starts in March, 0..365. -/
def dayOfYear (doe : Int) : Int :=
  doe - (365 * yearOfEra doe + yearOfEra doe / 4 - yearOfEra doe / 100)

/-- R112 `mp`: the month counted from March, 0..11. -/
def marchMonth (doy : Int) : Int := (5 * doy + 2) / 153

/-- R112 `mday`: the day of the month, from 1. -/
def monthDay (doy : Int) : Int := doy - (153 * marchMonth doy + 2) / 5 + 1

/-- R112 `m`: the month, 1 = January. -/
def monthOfYear (doy : Int) : Int :=
  if marchMonth doy < 10 then marchMonth doy + 3 else marchMonth doy - 9

/-- R112 `y`: the Gregorian year of a day counted from 1970-01-01. -/
def gregorianYear (days : Int) : Int :=
  let doe := dayOfEra days
  yearOfEra doe + 400 * fdiv (days + 719468) 146097 + (if monthOfYear (dayOfYear doe) ≤ 2 then 1 else 0)

/-- R112 `Civil(t)`: proleptic Gregorian, UTC, no leap seconds. -/
def civil (t : Int) : CivilTime :=
  let days := epochDays t
  let rem := secondOfDay t
  let doy := dayOfYear (dayOfEra days)
  { year := gregorianYear days - 1900
    month := monthOfYear doy - 1
    mday := monthDay doy
    wday := fmod (days + 4) 7
    hour := rem / 3600
    minute := (rem % 3600) / 60
    second := rem % 60 }

/-- R114 `BCD(v)`, for `v` in 0..99: tens digit in the high nibble, ones digit in the low nibble. -/
def bcd (v : Nat) : Byte :=
  (BitVec.ofNat 8 (v / 10) <<< 4) ||| BitVec.ofNat 8 (v % 10)

/-- R118, R126 to R132: the field a cursor position names. -/
def CivilTime.field (c : CivilTime) (k : Cursor) : Int :=
  match k with
  | 0 => c.year - 100
  | 1 => c.month
  | 2 => c.mday
  | 3 => c.wday
  | 4 => c.hour
  | 5 => c.minute
  | 6 => c.second

end Sys2Proof.Machine
end

