-- ==== Sys2Proof/Config.lean ====
section
/-!
DEFINITION. Sys2Proof/Config.lean: the constants the source fixes (00_scope.md R7, R8), the parameters it leaves
open (R9), and the free values (R13, R14): opaque constants with no body, so that a claim holds for every choice.
-/

namespace Sys2Proof.Config

/-- R7 `STREAM_CMD`: "the single supported RTC command". -/
def streamCmd : Byte := 0x15#8

/-- R7 `STATUS_BIT`: the fixed status bit, bit 7. -/
def statusBit : Byte := 0x80#8

/-- R7 `READ_DEFAULT`: what a read of an address that is neither port returns. -/
def readDefault : Byte := 0x00#8

/-- R8 `CYCLES_PER_SECOND`: emulated CPU cycles per emulated second. -/
def cyclesPerSecond : Nat := 3072000

/-- R9, R41 `CMD_PORT`: the address of the command port, OPEN (log entry 2). -/
opaque cmdPort : Nat

/-- The choice behind `dataPort` (log entry 2). -/
opaque dataPortChoice : Nat

/-- R9, R41 `DATA_PORT`: the address of the data port, OPEN but for `DATA_PORT != CMD_PORT`: as `dataPortChoice`
ranges over the naturals this ranges over every natural that is not `cmdPort` (log entry 2). -/
def dataPort : Nat := if dataPortChoice = cmdPort then cmdPort + 1 else dataPortChoice

/-- R150: `initialSeconds` of the INIT that launches the run, a launch parameter (log entry 5). -/
opaque launchSeconds : Seconds

/-- R150: `useRealtime` of the INIT that launches the run, a launch parameter (log entry 5). -/
opaque launchRealtime : Bool

/-- R14: the `n`-th host-clock answer where none has been supplied in advance. Nothing constrains it (log entry 6). -/
opaque hostClock : Nat → Seconds

/-- R32, R140 `CMD_RESET`: the `n`-th draw of CMD at an INIT (log entry 4). -/
opaque drawCmd : Nat → Byte

/-- R32, R140 `DATA_RESET`: the `n`-th draw of DATA at an INIT (log entry 4). -/
opaque drawData : Nat → Byte

/-- R32, R140 `CURSOR_RESET`: the `n`-th draw of CURSOR at an INIT (log entry 4). -/
opaque drawCursor : Nat → Cursor

/-- R115: the `n`-th draw of the byte that a year read outside 2000..2099 returns (log entry 11). -/
opaque drawYear : Nat → Byte

end Sys2Proof.Config
end

