-- ==== Sys2Proof/Syntax.lean ====
section
/-!
DEFINITION. Sys2Proof/Syntax.lean: the operations of the block, one constructor per row of spec/opcode_table.json
(30_encoding.md R62, R65, R69). "Wherever the checklist or this spec says 'instruction', read 'operation'" (R2).
-/

namespace Sys2Proof

/-- The 19 rows of the opcode table, in its order. A read or write of a port carries no address: the row names the
port (R62); the two NONE rows carry the address, which is neither port. -/
inductive Instr where
  /-- RD_NONE (R96): read of an address that is neither port. -/
  | rdNone (addr : Nat)
  /-- RD_CMD (R93): read of the command port. -/
  | rdCmd
  /-- RD_DATA (R94): read of the data port; the FSM state picks one of the next two rows. -/
  | rdData
  /-- RD_DATA_ECHO (R95): read of the data port in Idle. -/
  | rdDataEcho
  /-- RD_DATA_STREAM (R117): read of the data port in Streaming. -/
  | rdDataStream
  /-- WR_NONE (R92): write to an address that is neither port. -/
  | wrNone (addr : Nat) (v : Byte)
  /-- WR_CMD (R90): write to the command port. -/
  | wrCmd (v : Byte)
  /-- WR_DATA (R91): write to the data port. -/
  | wrData (v : Byte)
  /-- INIT (R140): the block's reset. -/
  | init (initialSeconds : Seconds) (useRealtime : Bool)
  /-- ADVANCE (R141): a batch of emulated CPU cycles. -/
  | advance (cycleCount : Nat)
  /-- CMD_STREAM (R98): the command byte 0x15. -/
  | cmdStream
  /-- CMD_OTHER (R97): any other command byte. -/
  | cmdOther (v : Byte)
  /-- FIELD_YEAR (R126). -/
  | fieldYear
  /-- FIELD_MONTH (R127). -/
  | fieldMonth
  /-- FIELD_DAY (R128). -/
  | fieldDay
  /-- FIELD_WDAY (R129). -/
  | fieldWday
  /-- FIELD_HOUR (R130). -/
  | fieldHour
  /-- FIELD_MIN (R131). -/
  | fieldMin
  /-- FIELD_SEC (R132). -/
  | fieldSec
deriving DecidableEq, Repr

end Sys2Proof
end

