-- ==== Sys2Proof/WellFormed.lean ====
section
/-!
DEFINITION. Sys2Proof/WellFormed.lean: the conditions the spec puts on an operation's operands. The widths are in the
types; two conditions are left: an address of a NONE row is neither port (R92, R96), and a CMD_OTHER byte is not
0x15 (R65, R97).
-/

namespace Sys2Proof

/-- R42, R64: an address that is neither port. -/
def isOtherAddress (addr : Nat) : Bool :=
  addr != Config.cmdPort && addr != Config.dataPort

/-- The operands are ones the row admits. -/
def WellFormed (i : Instr) : Bool :=
  match i with
  | .rdNone addr => isOtherAddress addr
  | .rdCmd => true
  | .rdData => true
  | .rdDataEcho => true
  | .rdDataStream => true
  | .wrNone addr _ => isOtherAddress addr
  | .wrCmd _ => true
  | .wrData _ => true
  | .init _ _ => true
  | .advance _ => true
  | .cmdStream => true
  | .cmdOther v => v != Config.streamCmd
  | .fieldYear => true
  | .fieldMonth => true
  | .fieldDay => true
  | .fieldWday => true
  | .fieldHour => true
  | .fieldMin => true
  | .fieldSec => true

end Sys2Proof
end

