-- ==== Sys2Proof/Decode.lean ====
section
/-!
DEFINITION. Sys2Proof/Decode.lean: the decoder of operation words (30_encoding.md R63, R70), of the command byte (R65)
and of the field selector (R69), the encoder, and the opcode table's match and mask of every row.
-/

namespace Sys2Proof

/-- Why a word is no operation. Each is raised by the decoder only, and each is safe: the machine stops where the
spec gives no meaning. -/
inductive DecodeError where
  /-- `opw` 0x3 or 0x7, which "cannot occur: `sel` never yields 0b11" (R63). Safe. -/
  | cannotOccur
  /-- `opw` 0xA to 0xF, "not assigned; no operation" (R63). Safe. -/
  | unassigned
  /-- The tuple has more or fewer operands than the operation (R61, R71; log entry 16). Safe. -/
  | operandCount
  /-- An operand outside its type: a written byte outside 0..255 (R46, D16, U6), a negative address or cycle count,
  seconds outside 64 bits signed, a bit other than 0 or 1 (R61; log entry 12). Safe. -/
  | operandRange
  /-- A field selector of 7, which is unreachable (R70). Safe. -/
  | cursorSeven
deriving DecidableEq, Repr

/-- An address or a cycle count: a natural number (R61). -/
def natOperand (x : Int) : Except DecodeError Nat :=
  if 0 ≤ x then .ok x.toNat else .error .operandRange

/-- A written byte, 0..255 (R61, D16). -/
def byteOperand (x : Int) : Except DecodeError Byte :=
  if 0 ≤ x ∧ x ≤ 255 then .ok (BitVec.ofNat 8 x.toNat) else .error .operandRange

/-- Epoch seconds, 64-bit signed (R61). -/
def secondsOperand (x : Int) : Except DecodeError Seconds :=
  if minSeconds ≤ x ∧ x ≤ maxSeconds then .ok (BitVec.ofInt 64 x) else .error .operandRange

/-- One bit (R61). -/
def bitOperand (x : Int) : Except DecodeError Bool :=
  if x = 0 then .ok false else if x = 1 then .ok true else .error .operandRange

/-- The operation a word `(opw; operands)` encodes (R63, R71). Total: every other word is rejected by name. -/
def decodeOp (w : OpWord) : Except DecodeError Instr :=
  match w.opw.toNat with
  | 0x0 =>
    match w.operands with
    | [addr] => (natOperand addr).map .rdNone
    | _ => .error .operandCount
  | 0x1 =>
    match w.operands with
    | [] => .ok .rdCmd
    | _ => .error .operandCount
  | 0x2 =>
    match w.operands with
    | [] => .ok .rdData
    | _ => .error .operandCount
  | 0x3 => .error .cannotOccur
  | 0x4 =>
    match w.operands with
    | [addr, v] => (natOperand addr).bind fun a => (byteOperand v).map (.wrNone a)
    | _ => .error .operandCount
  | 0x5 =>
    match w.operands with
    | [v] => (byteOperand v).map .wrCmd
    | _ => .error .operandCount
  | 0x6 =>
    match w.operands with
    | [v] => (byteOperand v).map .wrData
    | _ => .error .operandCount
  | 0x7 => .error .cannotOccur
  | 0x8 =>
    match w.operands with
    | [s, rt] => (secondsOperand s).bind fun t => (bitOperand rt).map (.init t)
    | _ => .error .operandCount
  | 0x9 =>
    match w.operands with
    | [n] => (natOperand n).map .advance
    | _ => .error .operandCount
  | _ => .error .unassigned

/-- R65: the command byte, tested whole for equality with 0x15. -/
def decodeCommand (b : Byte) : Instr :=
  if b = Config.streamCmd then .cmdStream else .cmdOther b

/-- R69: the field a cursor value selects; 7 is unreachable (R70). -/
def decodeField (c : BitVec 3) : Except DecodeError Instr :=
  match c.toNat with
  | 0 => .ok .fieldYear
  | 1 => .ok .fieldMonth
  | 2 => .ok .fieldDay
  | 3 => .ok .fieldWday
  | 4 => .ok .fieldHour
  | 5 => .ok .fieldMin
  | 6 => .ok .fieldSec
  | _ => .error .cursorSeven

/-- The row any word of the opcode table stands for. -/
def decode (w : TableWord) : Except DecodeError Instr :=
  match w with
  | .op w => decodeOp w
  | .command b => .ok (decodeCommand b)
  | .field c => decodeField c

/-- The operand `useRealtime` as a number (R61). -/
def bitToInt (b : Bool) : Int := if b then 1 else 0

/-- The word of each row (R63, R65, R69). RD_DATA_ECHO and RD_DATA_STREAM have RD_DATA's word: state selects them, not
the encoding (R62). -/
def encode (i : Instr) : TableWord :=
  match i with
  | .rdNone addr => .op ⟨0x0#4, [(addr : Int)]⟩
  | .rdCmd => .op ⟨0x1#4, []⟩
  | .rdData => .op ⟨0x2#4, []⟩
  | .rdDataEcho => .op ⟨0x2#4, []⟩
  | .rdDataStream => .op ⟨0x2#4, []⟩
  | .wrNone addr v => .op ⟨0x4#4, [(addr : Int), (v.toNat : Int)]⟩
  | .wrCmd v => .op ⟨0x5#4, [(v.toNat : Int)]⟩
  | .wrData v => .op ⟨0x6#4, [(v.toNat : Int)]⟩
  | .init t rt => .op ⟨0x8#4, [t.toInt, bitToInt rt]⟩
  | .advance n => .op ⟨0x9#4, [(n : Int)]⟩
  | .cmdStream => .command Config.streamCmd
  | .cmdOther v => .command v
  | .fieldYear => .field 0#3
  | .fieldMonth => .field 1#3
  | .fieldDay => .field 2#3
  | .fieldWday => .field 3#3
  | .fieldHour => .field 4#3
  | .fieldMin => .field 5#3
  | .fieldSec => .field 6#3

/-- R62: RD_DATA is the decoded access; RD_DATA_ECHO and RD_DATA_STREAM are its two state-selected meanings. -/
def decodedAccess (i : Instr) : Instr :=
  match i with
  | .rdDataEcho => .rdData
  | .rdDataStream => .rdData
  | j => j

/-- The selector bits of a word, as the opcode table numbers them. -/
def tableBits (w : TableWord) : Nat :=
  match w with
  | .op w => w.opw.toNat
  | .command b => b.toNat
  | .field c => c.toNat

/-- The `mask` column of spec/opcode_table.json. -/
def rowMask (i : Instr) : Nat :=
  match i with
  | .rdNone _ => 0xF
  | .rdCmd => 0xF
  | .rdData => 0xF
  | .rdDataEcho => 0xF
  | .rdDataStream => 0xF
  | .wrNone _ _ => 0xF
  | .wrCmd _ => 0xF
  | .wrData _ => 0xF
  | .init _ _ => 0xF
  | .advance _ => 0xF
  | .cmdStream => 0xFF
  | .cmdOther _ => 0x00
  | .fieldYear => 0x7
  | .fieldMonth => 0x7
  | .fieldDay => 0x7
  | .fieldWday => 0x7
  | .fieldHour => 0x7
  | .fieldMin => 0x7
  | .fieldSec => 0x7

/-- The `match` column of spec/opcode_table.json. -/
def rowMatch (i : Instr) : Nat :=
  match i with
  | .rdNone _ => 0x0
  | .rdCmd => 0x1
  | .rdData => 0x2
  | .rdDataEcho => 0x2
  | .rdDataStream => 0x2
  | .wrNone _ _ => 0x4
  | .wrCmd _ => 0x5
  | .wrData _ => 0x6
  | .init _ _ => 0x8
  | .advance _ => 0x9
  | .cmdStream => 0x15
  | .cmdOther _ => 0x00
  | .fieldYear => 0x0
  | .fieldMonth => 0x1
  | .fieldDay => 0x2
  | .fieldWday => 0x3
  | .fieldHour => 0x4
  | .fieldMin => 0x5
  | .fieldSec => 0x6

/-- How many operands an operation word has (R61, R71). -/
def operandCount (opw : Nat) : Nat :=
  match opw with
  | 0x0 => 1
  | 0x4 => 2
  | 0x5 => 1
  | 0x6 => 1
  | 0x8 => 2
  | 0x9 => 1
  | _ => 0

/-- The word a row of the opcode table stands for when the table gives it `nbits` bits with value `w` and every operand
is zero. A 3-bit row is a field selector, a row of no bits the command byte 0; otherwise a value below 16 is an
operation word and any other byte the command byte (log entry 18). -/
def tableWord (nbits w : Nat) : Option TableWord :=
  if nbits = 3 then
    if w < 8 then some (.field (BitVec.ofNat 3 w)) else none
  else if nbits = 0 then
    some (.command 0x00#8)
  else if w < 16 then
    some (.op ⟨BitVec.ofNat 4 w, List.replicate (operandCount w) 0⟩)
  else if w < 256 then
    some (.command (BitVec.ofNat 8 w))
  else
    none

/-- The row the decoder reads from a word of the opcode table. -/
def decodeTableWord (nbits w : Nat) : Option Instr :=
  match tableWord nbits w with
  | none => none
  | some t =>
    match decode t with
    | .ok i => some i
    | .error _ => none

end Sys2Proof
end

