-- ==== Sys2Proof/Machine/State.lean ====
section
/-!
DEFINITION. Sys2Proof/Machine/State.lean: the block's six fields (10_state.md R20), the inputs and the observation of a
run (00_scope.md R17), the reasons a step stops, and the state after reset (R32, R150).
-/

namespace Sys2Proof.Machine

/-- R25, R166: the clock mode; the spec writes real-time as 1 and simulated as 0. -/
inductive ClockMode where
  | simulated
  | realtime
deriving DecidableEq, Repr

/-- R29, R99: the chip state of the register interface, a function of CMD. -/
inductive FsmState where
  | idle
  | streaming
deriving DecidableEq, Repr

/-- R2, R61: an operation as an agent hands it to the block. A port access carries its width in bytes (R46: only one
byte has a meaning) and a write its value before any range check (D16). `coded` is an operation already given as its
canonical word (R63, R71; log entry 16). -/
inductive Call where
  | write (addr size value : Nat)
  | read (addr size : Nat)
  | init (initialSeconds : Seconds) (useRealtime : Bool)
  | advance (cycleCount : Nat)
  | coded (w : OpWord)
deriving DecidableEq, Repr

/-- R50, R53: what arrives next: one operation, or two at the same instant, to which the spec gives no meaning. -/
inductive Arrival where
  | one (c : Call)
  | together (c d : Call)
deriving DecidableEq, Repr

/-- The hardware's faults: none. "The complete list of exception causes and codes is therefore empty" (R160). -/
inductive Fault where
deriving DecidableEq, Repr

/-- Why a step has no next state. -/
inductive Refusal where
  /-- An operation with no meaning in this model; raised by `exec` alone, and by none of its arms. Safe. -/
  | notModelled (mnemonic : String)
  /-- R150, R170: an operation other than INIT before the first INIT; raised by `fetch`. Safe. -/
  | beforeInit
  /-- R46, R170: a port access that is not one byte wide; raised by `Call.opWord`. Safe. -/
  | notOneByte
  /-- R53, R170: two operations at once; raised by `fetch`. Safe. -/
  | simultaneous
  /-- R63, R70: a word that is no operation; raised by `fetch`. Safe. -/
  | undecodable (e : DecodeError)
  /-- R148, R170: an increment of TIME at `2^63 - 1`; raised by ADVANCE. Safe. -/
  | timeOverflow
deriving DecidableEq, Repr

/-- The machine. The first six fields are the block's record (R20); the others are the model's own: the agents' inputs
(R17), the observation (R17) and the counters that number the free values. -/
structure State where
  /-- CMD (R21). -/
  cmd : Byte
  /-- DATA (R22). -/
  data : Byte
  /-- CURSOR (R23). -/
  cursor : Cursor
  /-- MODE (R25). -/
  mode : ClockMode
  /-- TIME (R26). -/
  time : Seconds
  /-- ACC (R27). -/
  acc : Nat
  /-- Model's: an INIT has created the record (R150; log entry 15). -/
  created : Bool
  /-- Model's: the operations issued and not yet served, oldest first (R17, R50; log entry 13). -/
  inbox : List Arrival
  /-- Model's: the host-clock answers supplied in advance, next first (R14, R71; log entry 6). -/
  hostAnswers : List Seconds
  /-- Model's: how many `HostClock()` calls have been made (R14; log entry 22). -/
  hostQueries : Nat
  /-- Model's: how many draws have been made (R13; log entry 22). -/
  draws : Nat
  /-- Model's: the bytes returned by the reads so far, in order (R17; log entry 19). -/
  returned : List Byte
deriving DecidableEq, Repr

/-- R25: the mode an INIT with this `useRealtime` selects. -/
def ClockMode.ofBit (useRealtime : Bool) : ClockMode :=
  if useRealtime then .realtime else .simulated

/-- Before the first INIT: the record does not exist (R150), so its fields hold placeholders that no operation reads
(log entry 15). -/
def State.beforeFirstInit : State where
  cmd := 0x00#8
  data := 0x00#8
  cursor := 0
  mode := .simulated
  time := 0#64
  acc := 0
  created := false
  inbox := []
  hostAnswers := []
  hostQueries := 0
  draws := 0
  returned := []

/-- R32, R150: the state after the INIT that launches the run, with nothing yet issued: MODE, TIME and ACC as R32 says
for the launch operands, CMD, DATA and CURSOR drawn (log entries 4 and 5). -/
def State.reset : State where
  cmd := Config.drawCmd 0
  data := Config.drawData 0
  cursor := Config.drawCursor 0
  mode := ClockMode.ofBit Config.launchRealtime
  time := if Config.launchRealtime then Config.hostClock 0 else Config.launchSeconds
  acc := 0
  created := true
  inbox := []
  hostAnswers := []
  hostQueries := if Config.launchRealtime then 1 else 0
  draws := 1
  returned := []

end Sys2Proof.Machine
end

