-- ==== Sys2Proof/Machine/Flags.lean ====
section
/-!
DEFINITION. Sys2Proof/Machine/Flags.lean: the block's one flag, the status bit (10_state.md R28), and the FSM state that
CMD determines (R29).
-/

namespace Sys2Proof.Machine

/-- R28, R66 format S: a register with the status bit forced set. -/
def withStatus (reg : Byte) : Byte :=
  reg ||| Config.statusBit

/-- R29: `FsmState(S)`, Streaming exactly when CMD is 0x15. -/
def State.fsm (s : State) : FsmState :=
  if s.cmd = Config.streamCmd then .streaming else .idle

end Sys2Proof.Machine
end

