-- ==== Sys2Proof/Machine/Ops.lean ====
section
/-!
DEFINITION. Sys2Proof/Machine/Ops.lean: the named operations over the record that the meanings share: writing CMD, DATA
and CURSOR, returning a byte, asking the host clock (R14, R110), emitting a field (R117), and the accumulator (R141).
The block takes no exception and returns from none (60_exceptions.md R160, R163, R164), so there is no such operation.
-/

namespace Sys2Proof.Machine

/-- `CMD <- v`. -/
def State.setCmd (v : Byte) (s : State) : State := { s with cmd := v }

/-- `DATA <- v`. -/
def State.setData (v : Byte) (s : State) : State := { s with data := v }

/-- `CURSOR <- c`. -/
def State.setCursor (c : Cursor) (s : State) : State := { s with cursor := c }

/-- `TIME <- t`, `ACC <- a`. -/
def State.setClock (t : Seconds) (a : Nat) (s : State) : State := { s with time := t, acc := a }

/-- `return b`: the byte joins the bytes returned so far (R13, R17). -/
def State.respond (b : Byte) (s : State) : State := { s with returned := s.returned ++ [b] }

/-- One draw has been made (R13). -/
def State.useDraw (s : State) : State := { s with draws := s.draws + 1 }

/-- R14: what `HostClock()` answers now: the next supplied answer, or else an answer nothing constrains. -/
def State.hostAnswer (s : State) : Seconds :=
  match s.hostAnswers with
  | answer :: _ => answer
  | [] => Config.hostClock s.hostQueries

/-- The state after one `HostClock()` call: its answer is used up. -/
def State.askHost (s : State) : State :=
  { s with hostAnswers := s.hostAnswers.tail, hostQueries := s.hostQueries + 1 }

/-- R110 `Now()`: a fresh host-clock answer in real-time mode, TIME in simulated mode. -/
def State.now (s : State) : Seconds :=
  match s.mode with
  | .realtime => s.hostAnswer
  | .simulated => s.time

/-- The state after the one call of `Now()`: real-time mode has asked the host clock. -/
def State.afterNow (s : State) : State :=
  match s.mode with
  | .realtime => s.askHost
  | .simulated => s

/-- R110, R112: the calendar fields of the present instant. -/
def State.nowCivil (s : State) : CivilTime := civil s.now.toInt

/-- R90: a write of the command port; 0x15 also zeroes CURSOR. -/
def writeCommand (v : Byte) (s : State) : State :=
  if v = Config.streamCmd then (s.setCmd v).setCursor 0 else s.setCmd v

/-- R125: the cursor after a streaming read: one further, and 6 wraps to 0. -/
def nextCursor (c : Cursor) : Cursor :=
  if c = 6 then 0 else c + 1

/-- R117: return the field value `v` as BCD, or, outside 0..99, a byte the rules do not determine (R115), and move the
cursor to `next`. -/
def emit (v : Int) (next : Cursor) (s : State) : State :=
  if 0 ≤ v ∧ v ≤ 99 then (s.respond (bcd v.toNat)).setCursor next
  else ((s.respond (Config.drawYear s.draws)).useDraw).setCursor next

/-- R117: emit the field `k` of the present instant, whose one call of `Now()` comes first. -/
def streamField (k : Cursor) (s : State) : State :=
  emit (s.nowCivil.field k) (nextCursor k) s.afterNow

/-- R95: the echo of DATA with the status bit. -/
def echoData (s : State) : State := s.respond (withStatus s.data)

/-- R143: how many seconds `ADVANCE(n)` carries in simulated mode. -/
def carries (n : Nat) (s : State) : Nat := (s.acc + n) / Config.cyclesPerSecond

/-- R148: `ADVANCE(n)` would increment TIME past `2^63 - 1`. -/
def timeOverflows (n : Nat) (s : State) : Bool :=
  decide (0 < carries n s) && (decide (s.mode = .simulated) && decide (maxSeconds < s.time.toInt + carries n s))

/-- R141 in its closed form R143: in simulated mode the carried seconds join TIME and the remainder stays in ACC; in
real-time mode nothing changes. -/
def advanceClock (n : Nat) (s : State) : State :=
  match s.mode with
  | .realtime => s
  | .simulated =>
    s.setClock (BitVec.ofInt 64 (s.time.toInt + carries n s)) ((s.acc + n) % Config.cyclesPerSecond)

/-- R141: the source's carry loop on (ACC, TIME), at most `fuel` rounds of it. -/
def carryLoop (fuel acc : Nat) (time : Int) : Nat × Int :=
  match fuel with
  | 0 => (acc, time)
  | k + 1 =>
    if Config.cyclesPerSecond ≤ acc then carryLoop k (acc - Config.cyclesPerSecond) (time + 1) else (acc, time)

/-- R147: the accumulator of a `width`-bit implementation with wrap-around addition, just after `ACC + n`. -/
def wrappedSum (width acc n : Nat) : Nat :=
  (BitVec.ofNat width acc + BitVec.ofNat width n).toNat

/-- R140: INIT writes MODE, TIME and ACC and draws CMD, DATA and CURSOR; the host clock is asked once in real-time mode
and never in simulated mode (D17). -/
def launch (initialSeconds : Seconds) (useRealtime : Bool) (s : State) : State :=
  let asked := if useRealtime then s.askHost else s
  { asked with
    cmd := Config.drawCmd s.draws
    data := Config.drawData s.draws
    cursor := Config.drawCursor s.draws
    mode := ClockMode.ofBit useRealtime
    time := if useRealtime then s.hostAnswer else initialSeconds
    acc := 0
    created := true
    draws := s.draws + 1 }

end Sys2Proof.Machine
end

