-- ==== Sys2Proof/Machine/Lifecycle.lean ====
section
/-!
DEFINITION. Sys2Proof/Machine/Lifecycle.lean: the meanings of INIT (42_clock_accumulator.md R140) and ADVANCE (R141).
ADVANCE stops in one situation only, a TIME increment at `2^63 - 1` (R148).
-/

namespace Sys2Proof.Machine

/-- INIT (R140): the block's only reset. -/
def execInit (initialSeconds : Seconds) (useRealtime : Bool) (s : State) : Host.Outcome State Fault Refusal :=
  .next (launch initialSeconds useRealtime s)

/-- ADVANCE (R141, R143): no-op in real-time mode; no meaning where TIME would pass `2^63 - 1` (R148). -/
def execAdvance (cycleCount : Nat) (s : State) : Host.Outcome State Fault Refusal :=
  if timeOverflows cycleCount s then .refused .timeOverflow else .next (advanceClock cycleCount s)

end Sys2Proof.Machine
end

