-- ==== Sys2Proof/Machine/Ports.lean ====
section
/-!
DEFINITION. Sys2Proof/Machine/Ports.lean: the meanings of the port operations (40_register_interface.md R90 to R96) and
of the two command codes (R97, R98). No meaning here stops.
-/

namespace Sys2Proof.Machine

/-- RD_NONE (R96): returns 0x00; reads and writes nothing, so the address has no part in it. -/
def execRdNone (_addr : Nat) (s : State) : Host.Outcome State Fault Refusal :=
  .next (s.respond Config.readDefault)

/-- RD_CMD (R93): returns `CMD | 0x80`, in Idle and in Streaming alike. -/
def execRdCmd (s : State) : Host.Outcome State Fault Refusal :=
  .next (s.respond (withStatus s.cmd))

/-- RD_DATA (R94): the stored CMD at the time of the read picks the streaming read or the echo. -/
def execRdData (s : State) : Host.Outcome State Fault Refusal :=
  .next (if s.cmd = Config.streamCmd then streamField s.cursor s else echoData s)

/-- RD_DATA_ECHO (R95): returns `DATA | 0x80`; RD_DATA selects it when CMD is not 0x15 (log entry 17). -/
def execRdDataEcho (s : State) : Host.Outcome State Fault Refusal :=
  .next (echoData s)

/-- WR_NONE (R92): no state change. -/
def execWrNone (_addr : Nat) (_v : Byte) (s : State) : Host.Outcome State Fault Refusal :=
  .next s

/-- WR_CMD (R90): stores `v` in CMD; 0x15 also zeroes CURSOR. -/
def execWrCmd (v : Byte) (s : State) : Host.Outcome State Fault Refusal :=
  .next (writeCommand v s)

/-- WR_DATA (R91): stores `v` in DATA, in every state. -/
def execWrData (v : Byte) (s : State) : Host.Outcome State Fault Refusal :=
  .next (s.setData v)

/-- CMD_STREAM (R98): "Writing it is `WR_CMD(0x15)`" (log entry 18). -/
def execCmdStream (s : State) : Host.Outcome State Fault Refusal :=
  .next (writeCommand Config.streamCmd s)

/-- CMD_OTHER (R97): the write of that command byte, which "has no action of its own" (log entry 18). -/
def execCmdOther (v : Byte) (s : State) : Host.Outcome State Fault Refusal :=
  .next (writeCommand v s)

end Sys2Proof.Machine
end

