-- ==== Sys2Proof/Machine/Streamer.lean ====
section
/-!
DEFINITION. Sys2Proof/Machine/Streamer.lean: the meanings of the streaming read (41_time_streamer.md R117) and of the
seven field emitters (R126 to R132). CURSOR selects an emitter inside RD_DATA_STREAM (R69; log entry 17). No meaning
here stops.
-/

namespace Sys2Proof.Machine

/-- RD_DATA_STREAM (R117): emits the field CURSOR names and moves CURSOR on. -/
def execRdDataStream (s : State) : Host.Outcome State Fault Refusal :=
  .next (streamField s.cursor s)

/-- FIELD_YEAR (R126): `BCD(year - 100)`, or a free byte outside 2000..2099 (R115); then `CURSOR <- 1`. -/
def execFieldYear (s : State) : Host.Outcome State Fault Refusal :=
  .next (streamField 0 s)

/-- FIELD_MONTH (R127): `BCD(month)`, 0-based; then `CURSOR <- 2`. -/
def execFieldMonth (s : State) : Host.Outcome State Fault Refusal :=
  .next (streamField 1 s)

/-- FIELD_DAY (R128): `BCD(mday)`; then `CURSOR <- 3`. -/
def execFieldDay (s : State) : Host.Outcome State Fault Refusal :=
  .next (streamField 2 s)

/-- FIELD_WDAY (R129): `BCD(wday)`, 0 = Sunday; then `CURSOR <- 4`. -/
def execFieldWday (s : State) : Host.Outcome State Fault Refusal :=
  .next (streamField 3 s)

/-- FIELD_HOUR (R130): `BCD(hour)`, 24-hour; then `CURSOR <- 5`. -/
def execFieldHour (s : State) : Host.Outcome State Fault Refusal :=
  .next (streamField 4 s)

/-- FIELD_MIN (R131): `BCD(minute)`; then `CURSOR <- 6`. -/
def execFieldMin (s : State) : Host.Outcome State Fault Refusal :=
  .next (streamField 5 s)

/-- FIELD_SEC (R132): `BCD(second)`; then `CURSOR <- 0`. -/
def execFieldSec (s : State) : Host.Outcome State Fault Refusal :=
  .next (streamField 6 s)

end Sys2Proof.Machine
end

