-- ==== Sys2Proof/Machine/Dispatch.lean ====
section
/-!
DEFINITION. Sys2Proof/Machine/Dispatch.lean: `exec`, one arm per row of spec/opcode_table.json.
-/

namespace Sys2Proof.Machine

def exec (i : Instr) (s : State) : Host.Outcome State Fault Refusal :=
  match i with
  | .rdNone addr => Sys2Proof.Machine.execRdNone addr s
  | .rdCmd => Sys2Proof.Machine.execRdCmd s
  | .rdData => Sys2Proof.Machine.execRdData s
  | .rdDataEcho => Sys2Proof.Machine.execRdDataEcho s
  | .rdDataStream => Sys2Proof.Machine.execRdDataStream s
  | .wrNone addr v => Sys2Proof.Machine.execWrNone addr v s
  | .wrCmd v => Sys2Proof.Machine.execWrCmd v s
  | .wrData v => Sys2Proof.Machine.execWrData v s
  | .init t rt => Sys2Proof.Machine.execInit t rt s
  | .advance n => Sys2Proof.Machine.execAdvance n s
  | .cmdStream => Sys2Proof.Machine.execCmdStream s
  | .cmdOther v => Sys2Proof.Machine.execCmdOther v s
  | .fieldYear => Sys2Proof.Machine.execFieldYear s
  | .fieldMonth => Sys2Proof.Machine.execFieldMonth s
  | .fieldDay => Sys2Proof.Machine.execFieldDay s
  | .fieldWday => Sys2Proof.Machine.execFieldWday s
  | .fieldHour => Sys2Proof.Machine.execFieldHour s
  | .fieldMin => Sys2Proof.Machine.execFieldMin s
  | .fieldSec => Sys2Proof.Machine.execFieldSec s

end Sys2Proof.Machine
end

