-- ==== Sys2Proof/Machine/Operands.lean ====
section
/-!
DEFINITION. Sys2Proof/Machine/Operands.lean: how a call's operands become an operation word: the classification of an
address (30_encoding.md R64), the width of a port access (20_memory.md R46), and the canonical word (R63).
-/

namespace Sys2Proof.Machine

/-- R64: `sel(addr)`, 0b01 for the command port, 0b10 for the data port, 0b00 for any other address; the comparison is
on the whole address. -/
def sel (addr : Nat) : BitVec 2 :=
  if addr = Config.cmdPort then 0b01#2
  else if addr = Config.dataPort then 0b10#2
  else 0b00#2

/-- R63: `opw` of a port access: bit 3 is 0, bit 2 the direction, bits 1:0 `sel(addr)`. -/
def portOpw (dir : Bool) (addr : Nat) : BitVec 4 :=
  0#1 ++ BitVec.ofBool dir ++ sel addr

/-- R71: the operands of a port access as the trace notation lists them: the address only where it is neither port. -/
def portOperands (addr : Nat) (rest : List Int) : List Int :=
  if sel addr = 0b00#2 then (addr : Int) :: rest else rest

/-- R43, R44, R63: the canonical word of a call. A port access that is not one byte wide has none (R46). -/
def Call.opWord (c : Call) : Except Refusal OpWord :=
  match c with
  | .write addr size value =>
    if size = 1 then .ok ⟨portOpw true addr, portOperands addr [(value : Int)]⟩ else .error .notOneByte
  | .read addr size =>
    if size = 1 then .ok ⟨portOpw false addr, portOperands addr []⟩ else .error .notOneByte
  | .init t rt => .ok ⟨0x8#4, [t.toInt, bitToInt rt]⟩
  | .advance n => .ok ⟨0x9#4, [(n : Int)]⟩
  | .coded w => .ok w

end Sys2Proof.Machine
end

