-- ==== Sys2Proof/Machine/Fetch.lean ====
section
/-!
DEFINITION. Sys2Proof/Machine/Fetch.lean: how the next operation is taken from the agents' total order (20_memory.md
R50, R53; 42_clock_accumulator.md R150), and where an operation word is placed so that the next step runs it.
-/

namespace Sys2Proof.Machine

/-- What the next step is to do. -/
inductive Fetched where
  /-- Nothing is pending: the block stays in its last state (R17). -/
  | idle
  /-- Run `i` from `s`, which has the arrival taken off. -/
  | run (i : Instr) (s : State)
  /-- The arrival has no meaning. -/
  | reject (r : Refusal)
deriving DecidableEq, Repr

/-- INIT, the one operation that has a meaning before the first INIT (R150). -/
def isInit (i : Instr) : Bool :=
  match i with
  | .init _ _ => true
  | _ => false

/-- R63, R43, R44: the operation a call stands for. -/
def Call.instr (c : Call) : Except Refusal Instr :=
  match c.opWord with
  | .error r => .error r
  | .ok w =>
    match decodeOp w with
    | .error e => .error (.undecodable e)
    | .ok i => .ok i

/-- R50, R53, R150: take the oldest arrival: two at once have no meaning, nor has any operation but INIT before the
first INIT. -/
def fetch (s : State) : Fetched :=
  match s.inbox with
  | [] => .idle
  | .together _ _ :: _ => .reject .simultaneous
  | .one c :: rest =>
    match c.instr with
    | .error r => .reject r
    | .ok i => if s.created || isInit i then .run i { s with inbox := rest } else .reject .beforeInit

/-- Put a call before every pending arrival. -/
def State.issueFirst (c : Call) (s : State) : State := { s with inbox := .one c :: s.inbox }

/-- Put a call after every pending arrival (R50). -/
def State.issue (c : Call) (s : State) : State := { s with inbox := s.inbox ++ [.one c] }

/-- Place a word of the opcode table so that the next step runs it: an operation word as the next call; a command byte
as the write of it to the command port (R98); a field selector as a data-port read with CMD and CURSOR set so that
they select that field (R69; log entry 18). -/
def placeWord (w : TableWord) (s : State) : State :=
  match w with
  | .op w => s.issueFirst (.coded w)
  | .command b => s.issueFirst (.coded ⟨0x5#4, [(b.toNat : Int)]⟩)
  | .field c =>
    if h : c.toNat < nFields then
      ((s.setCmd Config.streamCmd).setCursor ⟨c.toNat, h⟩).issueFirst (.coded ⟨0x2#4, []⟩)
    else s

end Sys2Proof.Machine
end

