-- ==== Sys2Proof/Machine/Step.lean ====
section
/-!
DEFINITION. Sys2Proof/Machine/Step.lean: one step serves one pending operation (20_memory.md R50), and the host's
`withFetchWord`.
-/

namespace Sys2Proof.Machine

/-- One transition per operation (R50); with nothing pending the block stays in its last state (R17). -/
def step (s : State) : Host.Outcome State Fault Refusal :=
  match fetch s with
  | .idle => .next s
  | .run i t => exec i t
  | .reject r => .refused r

/-- `s` with the opcode-table word `w` of `nbits` bits placed where the next step takes its operation; a word that no
row has changes nothing. -/
def State.withFetchWord (s : State) (nbits w : Nat) : State :=
  match tableWord nbits w with
  | none => s
  | some t => placeWord t s

end Sys2Proof.Machine
end

