-- ==== Sys2Proof/Safety.lean ====
section
/-!
DEFINITION. Sys2Proof/Safety.lean: the invariant of the block (10_state.md R30), sequences of operations, and the terms
the statements use.
-/

namespace Sys2Proof.Machine

/-- R30 item 2: `0 <= ACC < 3,072,000`, and ACC is 0 in real-time mode. Item 1 is in the cursor's type. -/
def State.Inv (s : State) : Prop :=
  s.acc < Config.cyclesPerSecond ∧ (s.mode = .realtime → s.acc = 0)

/-- R72: a sequence of operations, one after the other, stopping where one has no meaning. -/
def execAll (is : List Instr) (s : State) : Host.Outcome State Fault Refusal :=
  match is with
  | [] => .next s
  | i :: rest =>
    match exec i s with
    | .next t => execAll rest t
    | .fault r => .fault r
    | .refused r => .refused r

/-- R17, R50: `k` steps, stopping where an operation has no meaning. -/
def runSteps (k : Nat) (s : State) : Host.Outcome State Fault Refusal :=
  match k with
  | 0 => .next s
  | k + 1 =>
    match step s with
    | .next t => runSteps k t
    | .fault r => .fault r
    | .refused r => .refused r

/-- R40: a port operation: every row but the lifecycle calls INIT and ADVANCE. -/
def isPortOp (i : Instr) : Bool :=
  match i with
  | .init _ _ => false
  | .advance _ => false
  | _ => true

/-- The cycles an operation brings (R141). -/
def cyclesOf (i : Instr) : Nat :=
  match i with
  | .advance n => n
  | _ => 0

/-- R2, R44: the operation is a read, which returns one byte; a write, INIT or ADVANCE returns nothing. -/
def isRead (i : Instr) : Bool :=
  match i with
  | .rdNone _ => true
  | .rdCmd => true
  | .rdData => true
  | .rdDataEcho => true
  | .rdDataStream => true
  | .wrNone _ _ => false
  | .wrCmd _ => false
  | .wrData _ => false
  | .init _ _ => false
  | .advance _ => false
  | .cmdStream => false
  | .cmdOther _ => false
  | .fieldYear => true
  | .fieldMonth => true
  | .fieldDay => true
  | .fieldWday => true
  | .fieldHour => true
  | .fieldMin => true
  | .fieldSec => true

/-- R111, D17: the operation is a streaming read of the data port in this state. -/
def isStreamRead (i : Instr) (s : State) : Bool :=
  match i with
  | .rdData => s.cmd == Config.streamCmd
  | .rdDataStream => true
  | .fieldYear => true
  | .fieldMonth => true
  | .fieldDay => true
  | .fieldWday => true
  | .fieldHour => true
  | .fieldMin => true
  | .fieldSec => true
  | _ => false

/-- D17: how often an operation asks the host clock: once in a real-time INIT and in a streaming read in real-time
mode, and never otherwise. -/
def hostCalls (i : Instr) (s : State) : Nat :=
  match i with
  | .init _ useRealtime => if useRealtime then 1 else 0
  | j => if isStreamRead j s && s.mode == .realtime then 1 else 0

/-- R69: the field emitter a cursor position selects. -/
def fieldAt (c : Cursor) : Instr :=
  match c with
  | 0 => .fieldYear
  | 1 => .fieldMonth
  | 2 => .fieldDay
  | 3 => .fieldWday
  | 4 => .fieldHour
  | 5 => .fieldMin
  | 6 => .fieldSec

/-- R60, R62, R65, R68: the row that the command byte, CMD and CURSOR select for an operation, down to the field. -/
def selectedRow (s : State) (i : Instr) : Instr :=
  match i with
  | .wrCmd v => decodeCommand v
  | .rdData => if s.cmd = Config.streamCmd then fieldAt s.cursor else .rdDataEcho
  | .rdDataStream => fieldAt s.cursor
  | j => j

/-- R72 `STREAM7`: the clean sequence of the source, the streaming command and seven data-port reads. -/
def stream7 : List Instr := .wrCmd Config.streamCmd :: List.replicate nFields .rdData

/-- R72 `ECHO <v>`: a data-port write and the read that echoes it while CMD is not 0x15. -/
def echoPair (v : Byte) : List Instr := [.wrData v, .rdData]

/-- R72 `ADVSEC <k>`: `k` times one second of cycles. -/
def advanceSeconds (k : Nat) : List Instr := List.replicate k (.advance Config.cyclesPerSecond)

/-- R134, R136: the window 2000-01-01T00:00:00Z .. 2099-12-31T23:59:59Z in which all seven bytes are specified. -/
def InWindow (t : Int) : Prop := 946684800 ≤ t ∧ t ≤ 4102444799

/-- R112: "Leap years are those divisible by 4 except centuries not divisible by 400". -/
def isLeap (y : Int) : Bool := y % 4 == 0 && (y % 100 != 0 || y % 400 == 0)

/-- The days of a month of a Gregorian year, `month` 0 = January. -/
def daysInMonth (y month : Int) : Int :=
  if month = 1 then (if isLeap y then 29 else 28)
  else if month = 3 ∨ month = 5 ∨ month = 8 ∨ month = 10 then 30
  else 31

/-- The Gregorian calendar's next day, on (year since 1900, month from 0, day from 1). -/
def nextDate (d : Int × Int × Int) : Int × Int × Int :=
  if d.2.2 < daysInMonth (d.1 + 1900) d.2.1 then (d.1, d.2.1, d.2.2 + 1)
  else if d.2.1 < 11 then (d.1, d.2.1 + 1, 1)
  else (d.1 + 1, 0, 1)

/-- The date of a calendar time. -/
def CivilTime.date (c : CivilTime) : Int × Int × Int := (c.year, c.month, c.mday)

/-- R147 `AdvanceNoOverflow(W)`. -/
def AdvanceNoOverflow (width acc n : Nat) : Prop := acc + n < 2 ^ width

end Sys2Proof.Machine
end

