-- ==== Sys2Proof/Certificates/Slice0/Obligations.lean ====
section
/-!
DEFINITION. Sys2Proof/Certificates/Slice0/Obligations.lean: the statements for the provers. Bytes and constants are
written as numbers here, as the rules write them, so that a changed constant of the model makes a statement false.
-/

open Sys2Proof Sys2Proof.Machine

/-! ### The step and the port space (20_memory.md) -/

/-- R50, R60: the oldest call, when it stands for an operation `i` that may run, is taken off and `i` is executed.
The second clause is the model's choice (log entry 16): a call handed over as its word stands for what the decoder
reads from the word. -/
def Obligations.StepRunsTheDecodedOperation : Prop :=
  (∀ (s : State) (c : Call) (rest : List Arrival) (i : Instr),
    s.inbox = .one c :: rest → c.instr = .ok i → (s.created = true ∨ isInit i = true) →
    step s = exec i { s with inbox := rest }) ∧
  ∀ (w : OpWord) (i : Instr), decodeOp w = .ok i → (Call.coded w).instr = .ok i

/-- The model's choice (log entry 20, from R15 and R17): with nothing pending the block stays in its last state. -/
def Obligations.StepWithNothingPendingKeepsTheState : Prop :=
  ∀ s : State, s.inbox = [] → step s = .next s

/-- R43: a one-byte write dispatches on its address, returns nothing and never fails. -/
def Obligations.PortWriteDispatchesOnTheAddress : Prop :=
  ∀ (s : State) (rest : List Arrival) (addr : Nat) (v : Byte),
    s.created = true → s.inbox = .one (.write addr 1 v.toNat) :: rest →
    (addr = Config.cmdPort →
      step s = .next { s with inbox := rest, cmd := v, cursor := if v = 0x15#8 then 0 else s.cursor }) ∧
    (addr = Config.dataPort → step s = .next { s with inbox := rest, data := v }) ∧
    (addr ≠ Config.cmdPort → addr ≠ Config.dataPort → step s = .next { s with inbox := rest })

/-- R44: a one-byte read dispatches on its address, and for the data port also on CMD; it never fails and returns exactly
one byte. -/
def Obligations.PortReadDispatchesOnTheAddress : Prop :=
  ∀ (s : State) (rest : List Arrival) (addr : Nat),
    s.created = true → s.inbox = .one (.read addr 1) :: rest →
    (addr = Config.cmdPort →
      step s = .next { s with inbox := rest, returned := s.returned ++ [s.cmd ||| 0x80#8] }) ∧
    (addr = Config.dataPort → s.cmd ≠ 0x15#8 →
      step s = .next { s with inbox := rest, returned := s.returned ++ [s.data ||| 0x80#8] }) ∧
    (addr = Config.dataPort → s.cmd = 0x15#8 → step s = exec .rdDataStream { s with inbox := rest }) ∧
    (addr ≠ Config.cmdPort → addr ≠ Config.dataPort →
      step s = .next { s with inbox := rest, returned := s.returned ++ [0x00#8] }) ∧
    ∃ t b, step s = .next t ∧ t.returned = s.returned ++ [b]

/-- R46, D16: a port access that is not one byte wide, and a write of a value that is no byte, are refused by name,
whatever the address. -/
def Obligations.AccessesThatAreNotOneByteAreRefused : Prop :=
  ∀ (s : State) (rest : List Arrival) (addr size value : Nat),
    (size ≠ 1 → s.inbox = .one (.write addr size value) :: rest → step s = .refused .notOneByte) ∧
    (size ≠ 1 → s.inbox = .one (.read addr size) :: rest → step s = .refused .notOneByte) ∧
    (size = 1 → 255 < value → s.inbox = .one (.write addr size value) :: rest →
      step s = .refused (.undecodable .operandRange))

/-- R53: two operations at the same instant are refused by name. -/
def Obligations.SimultaneousOperationsAreRefused : Prop :=
  ∀ (s : State) (rest : List Arrival) (c d : Call),
    s.inbox = .together c d :: rest → step s = .refused .simultaneous

/-- R150: before the first INIT every operation but INIT is refused by name, and INIT runs. -/
def Obligations.OnlyInitRunsBeforeTheFirstInit : Prop :=
  ∀ (s : State) (rest : List Arrival) (c : Call) (i : Instr),
    s.created = false → s.inbox = .one c :: rest → c.instr = .ok i →
    (isInit i = false → step s = .refused .beforeInit) ∧
    (isInit i = true → ∃ t, step s = .next t ∧ t.created = true ∧ t.inbox = rest)

/-! ### Encoding (30_encoding.md) -/

/-- R63, R70: the words 0x3 and 0x7, which cannot occur, and 0xA to 0xF, which are not assigned, are rejected by name,
whatever operands stand beside them. -/
def Obligations.UnassignedOperationWordsAreRejected : Prop :=
  ∀ (opw : BitVec 4) (operands : List Int),
    ((opw = 0x3#4 ∨ opw = 0x7#4) → decodeOp ⟨opw, operands⟩ = .error .cannotOccur) ∧
    (0xA#4 ≤ opw → decodeOp ⟨opw, operands⟩ = .error .unassigned)

/-- R63, R71: the words of the spec's own programs (95_test_vectors.md section 3) and the command bytes and selectors of
R65 and R69 decode to the operations they stand for. -/
def Obligations.TheSpecsSampleWordsDecode : Prop :=
  decode (.op ⟨0x8#4, [946684800, 0]⟩) = .ok (.init 946684800#64 false) ∧
  decode (.op ⟨0x5#4, [0x15]⟩) = .ok (.wrCmd 0x15#8) ∧
  decode (.op ⟨0x2#4, []⟩) = .ok .rdData ∧
  decode (.op ⟨0x6#4, [0x42]⟩) = .ok (.wrData 0x42#8) ∧
  decode (.op ⟨0x1#4, []⟩) = .ok .rdCmd ∧
  decode (.op ⟨0x9#4, [3072000]⟩) = .ok (.advance 3072000) ∧
  decode (.command 0x15#8) = .ok .cmdStream ∧
  decode (.command 0x95#8) = .ok (.cmdOther 0x95#8) ∧
  decode (.field 6#3) = .ok .fieldSec ∧
  decode (.field 7#3) = .error .cursorSeven

/-- R63, R65, R69: decode undoes encode on every well-formed row, with every operand at every value; the two rows that
state selects come back as the access they are sub-cases of (R62). -/
def Obligations.DecodeUndoesEncode : Prop :=
  ∀ i : Instr, WellFormed i = true → decode (encode i) = .ok (decodedAccess i)

/-- R63: each operation has one word: what decodes to `i` is the word `encode` gives `i`. -/
def Obligations.EveryOperationHasOneWord : Prop :=
  ∀ (w : TableWord) (i : Instr), decode w = .ok i → encode i = w

/-- R43, R44, R64, R165: a one-byte read, a one-byte write of a byte, an Init and an Advance always stand for a
well-formed operation of their own kind: a write for a port operation that is no read, a read for a port operation
that is one, and no port access for INIT or ADVANCE. -/
def Obligations.EveryProperCallIsAWellFormedOperation : Prop :=
  ∀ (addr : Nat) (v : Byte) (t : Seconds) (rt : Bool) (n : Nat),
    (∃ i, (Call.write addr 1 v.toNat).instr = .ok i ∧ WellFormed i = true ∧ isPortOp i = true ∧ isRead i = false) ∧
    (∃ i, (Call.read addr 1).instr = .ok i ∧ WellFormed i = true ∧ isPortOp i = true ∧ isRead i = true) ∧
    (Call.init t rt).instr = .ok (.init t rt) ∧
    (Call.advance n).instr = .ok (.advance n)

/-- R62, R65, R69, R94: an operation does what the row that the command byte, CMD and CURSOR select for it does. Two
parts are the model's choice: that the row CMD_OTHER, which has no action of its own (R97), means the write of its byte
(log entry 18), and what RD_DATA_STREAM does where CMD does not select it (log entry 17). -/
def Obligations.EveryOperationDoesWhatItsSelectedRowDoes : Prop :=
  ∀ (i : Instr) (s : State), exec i s = exec (selectedRow s i) s

/-! ### The register interface (40_register_interface.md) -/

/-- R90: a command-port write stores the byte, zeroes CURSOR exactly when the byte is 0x15, and changes nothing else. -/
def Obligations.WrCmdStoresTheByteAndArmsTheStream : Prop :=
  ∀ (v : Byte) (s : State),
    exec (.wrCmd v) s = .next { s with cmd := v, cursor := if v = 0x15#8 then 0 else s.cursor }

/-- R91: a data-port write stores the byte in every state and changes nothing else. -/
def Obligations.WrDataStoresTheByte : Prop :=
  ∀ (v : Byte) (s : State), exec (.wrData v) s = .next { s with data := v }

/-- R92: a write to any other address changes nothing. -/
def Obligations.WrNoneChangesNothing : Prop :=
  ∀ (addr : Nat) (v : Byte) (s : State), exec (.wrNone addr v) s = .next s

/-- R93: a command-port read returns `CMD | 0x80`, never below 0x80, and changes nothing else. -/
def Obligations.RdCmdReturnsCmdWithTheStatusBit : Prop :=
  ∀ s : State,
    exec .rdCmd s = .next { s with returned := s.returned ++ [s.cmd ||| 0x80#8] } ∧
    0x80#8 ≤ s.cmd ||| 0x80#8

/-- R95: in Idle a data-port read, and the echo row, return `DATA | 0x80` and change nothing else. -/
def Obligations.RdDataEchoReturnsDataWithTheStatusBit : Prop :=
  ∀ s : State, s.cmd ≠ 0x15#8 →
    exec .rdDataEcho s = .next { s with returned := s.returned ++ [s.data ||| 0x80#8] } ∧
    exec .rdData s = .next { s with returned := s.returned ++ [s.data ||| 0x80#8] } ∧
    0x80#8 ≤ s.data ||| 0x80#8

/-- R94: a data-port read is the streaming read when CMD is 0x15 and the echo otherwise. -/
def Obligations.RdDataDispatchesOnCmd : Prop :=
  ∀ s : State, exec .rdData s = if s.cmd = 0x15#8 then exec .rdDataStream s else exec .rdDataEcho s

/-- R96: a read of any other address returns 0x00, without the status bit, and changes nothing else. -/
def Obligations.RdNoneReturnsZero : Prop :=
  ∀ (addr : Nat) (s : State), exec (.rdNone addr) s = .next { s with returned := s.returned ++ [0x00#8] }

/-- R90, R97: an unsupported command byte is stored and has no other effect; the FSM is then in Idle and a data-port read
echoes DATA. That the row CMD_OTHER means the write of its byte, as its clauses say, is the model's choice (log
entry 18): R97 gives the row no action of its own. -/
def Obligations.CmdOtherSelectsTheEcho : Prop :=
  ∀ (v : Byte) (s : State), v ≠ 0x15#8 →
    exec (.cmdOther v) s = .next { s with cmd := v } ∧
    exec (.wrCmd v) s = .next { s with cmd := v } ∧
    ({ s with cmd := v } : State).fsm = .idle ∧
    execAll [.cmdOther v, .rdData] s = .next { s with cmd := v, returned := s.returned ++ [s.data ||| 0x80#8] }

/-- R98: the command byte 0x15 is stored and zeroes CURSOR; the FSM is then in Streaming, the command port reads 0x95
and a data-port read is the streaming read. -/
def Obligations.CmdStreamStartsStreaming : Prop :=
  ∀ s : State,
    exec .cmdStream s = .next { s with cmd := 0x15#8, cursor := 0 } ∧
    exec (.wrCmd 0x15#8) s = .next { s with cmd := 0x15#8, cursor := 0 } ∧
    ({ s with cmd := 0x15#8, cursor := 0 } : State).fsm = .streaming ∧
    execAll [.cmdStream, .rdCmd] s =
      .next { s with cmd := 0x15#8, cursor := 0, returned := s.returned ++ [0x95#8] } ∧
    execAll [.cmdStream, .rdData] s = exec .rdDataStream { s with cmd := 0x15#8, cursor := 0 }

/-- R101 item 1: after a command byte other than 0x15 the command port reads back `v | 0x80` and the data port
`DATA | 0x80`, also when a data byte has been written since. -/
def Obligations.CommandAndDataRoundTripInIdle : Prop :=
  ∀ (v d : Byte) (s : State), v ≠ 0x15#8 →
    execAll ([.wrCmd v, .rdCmd, .rdData] ++ echoPair d) s =
      .next { s with cmd := v, data := d,
                     returned := s.returned ++ [v ||| 0x80#8, s.data ||| 0x80#8, d ||| 0x80#8] }

/-- R99: only a command byte or INIT changes CMD, and so the FSM state; every other operation that completes leaves
both as they are. That the row CMD_OTHER writes its byte is the model's choice (log entry 18). -/
def Obligations.OnlyCommandBytesAndInitChangeTheFsmState : Prop :=
  ∀ (i : Instr) (s t : State), exec i s = .next t →
    (t.cmd = s.cmd ∧ t.fsm = s.fsm) ∨ isInit i = true ∨ i = .cmdStream ∨
    ∃ v, (i = .wrCmd v ∨ i = .cmdOther v) ∧ t.cmd = v ∧ (t.fsm = .streaming ↔ v = 0x15#8)

/-- R23: CURSOR becomes 0 at a 0x15 command byte, moves one on (6 wrapping to 0) at a streaming read, is drawn at INIT,
and is left alone by every other operation the block is handed. What the rows that state selects do where it does not
select them (a field row at another CURSOR among them) is the model's choice (log entry 17), as is the write by the row
CMD_OTHER (log entry 18). -/
def Obligations.CursorHasNoOtherWriters : Prop :=
  ∀ (i : Instr) (s t : State), exec i s = .next t → isInit i = false →
    t.cursor = s.cursor ∨
    (t.cursor = 0 ∧ t.cmd = 0x15#8 ∧ (i = .cmdStream ∨ i = .wrCmd 0x15#8 ∨ i = .cmdOther 0x15#8)) ∨
    (isStreamRead i s = true ∧ (s.cursor.val + 1) % 7 = t.cursor.val) ∨
    ∃ k : Cursor, i = fieldAt k ∧ t.cursor.val = (k.val + 1) % 7

/-- R101 item 4: no sequence of port operations changes MODE, TIME or ACC. -/
def Obligations.PortOperationsNeverMoveTheClock : Prop :=
  ∀ (is : List Instr) (s t : State), (∀ i ∈ is, isPortOp i = true) → execAll is s = .next t →
    t.mode = s.mode ∧ t.time = s.time ∧ t.acc = s.acc

/-- R44, R160: every operation but ADVANCE completes in every state, a read returning exactly one byte and any other
operation none. -/
def Obligations.EveryOperationButAdvanceAlwaysCompletes : Prop :=
  ∀ (i : Instr) (s : State), (∀ n, i ≠ .advance n) →
    ∃ t bs, exec i s = .next t ∧ t.returned = s.returned ++ bs ∧ bs.length = if isRead i then 1 else 0

/-! ### The streamer (41_time_streamer.md) -/

/-- R114: BCD puts the tens digit in the high nibble and the ones digit in the low nibble, and adds `6 * (v div 10)`. -/
def Obligations.BcdShowsTheTwoDecimalDigits : Prop :=
  ∀ v : Nat, v ≤ 99 →
    (bcd v).toNat = 16 * (v / 10) + v % 10 ∧ (bcd v).toNat = v + 6 * (v / 10) ∧
    (bcd v).toNat / 16 ≤ 9 ∧ (bcd v).toNat % 16 ≤ 9 ∧ ∀ u : Nat, u < v → bcd u < bcd v

/-- R113: the ranges of the six fields that are always within 0..99. -/
def Obligations.CalendarFieldsStayInTheirRanges : Prop :=
  ∀ t : Int,
    0 ≤ (civil t).month ∧ (civil t).month ≤ 11 ∧ 1 ≤ (civil t).mday ∧ (civil t).mday ≤ 31 ∧
    0 ≤ (civil t).wday ∧ (civil t).wday ≤ 6 ∧ 0 ≤ (civil t).hour ∧ (civil t).hour ≤ 23 ∧
    0 ≤ (civil t).minute ∧ (civil t).minute ≤ 59 ∧ 0 ≤ (civil t).second ∧ (civil t).second ≤ 59

/-- R113: the year field is a two-digit number exactly in the window 2000..2099. -/
def Obligations.TheYearFieldHasTwoDigitsExactlyInTheWindow : Prop :=
  ∀ t : Int, (0 ≤ (civil t).year - 100 ∧ (civil t).year - 100 ≤ 99) ↔ InWindow t

/-- R112: the conversion is the Gregorian calendar: a day of 86,400 seconds later the time of day is the same, the
weekday is the next one, and the date is the next date under the leap rule R112 states; an instant has the date and the
weekday of its day's midnight; and its anchor is the source's example, 2000-01-01, which is weekday 6, a Saturday, under
the spec's own decision D8 that 0 is Sunday. -/
def Obligations.CivilFollowsTheGregorianCalendarDayByDay : Prop :=
  (∀ t : Int,
    (civil (t + 86400)).date = nextDate (civil t).date ∧
    (civil (t + 86400)).wday = ((civil t).wday + 1) % 7 ∧
    (civil (t + 86400)).hour = (civil t).hour ∧ (civil (t + 86400)).minute = (civil t).minute ∧
    (civil (t + 86400)).second = (civil t).second ∧
    t % 86400 = 3600 * (civil t).hour + 60 * (civil t).minute + (civil t).second ∧
    (civil t).date = (civil (t - t % 86400)).date ∧ (civil t).wday = (civil (t - t % 86400)).wday) ∧
  (civil 946684800).date = (100, 0, 1) ∧ (civil 946684800).wday = 6

/-- R110: in simulated mode the present instant is TIME and the host clock is not asked; in real-time mode it is the
next supplied answer, which is used up, or, when none is supplied, an answer nothing determines (the list of supplied
answers is the model's choice, log entry 6). -/
def Obligations.NowIsTimeOrAFreshHostAnswer : Prop :=
  ∀ s : State,
    (s.mode = .simulated → s.now = s.time ∧ s.afterNow = s) ∧
    (∀ h rest, s.mode = .realtime → s.hostAnswers = h :: rest →
      s.now = h ∧ s.afterNow = { s with hostAnswers := rest, hostQueries := s.hostQueries + 1 }) ∧
    (s.mode = .realtime → s.hostAnswers = [] →
      s.now = Config.hostClock s.hostQueries ∧ s.afterNow = { s with hostQueries := s.hostQueries + 1 })

/-- R126, R115: at CURSOR 0 the year since 2000 is returned as BCD where it has two digits and otherwise a byte that
the rules do not determine; either way CURSOR becomes 1 and no other field of the record changes. -/
def Obligations.FieldYearReturnsTheYearSince2000 : Prop :=
  ∀ s : State, s.cmd = 0x15#8 → s.cursor = 0 →
    (0 ≤ (civil s.now.toInt).year - 100 → (civil s.now.toInt).year - 100 ≤ 99 →
      exec .fieldYear s = .next { s.afterNow with
        cursor := 1, returned := s.returned ++ [bcd ((civil s.now.toInt).year - 100).toNat] }) ∧
    (((civil s.now.toInt).year - 100 < 0 ∨ 99 < (civil s.now.toInt).year - 100) →
      ∃ b, exec .fieldYear s = .next { s.afterNow with
        cursor := 1, draws := s.draws + 1, returned := s.returned ++ [b] }) ∧
    exec .rdData s = exec .fieldYear s

/-- R127: at CURSOR 1 the 0-based month is returned as BCD, and CURSOR becomes 2. -/
def Obligations.FieldMonthReturnsTheZeroBasedMonth : Prop :=
  ∀ s : State, s.cmd = 0x15#8 → s.cursor = 1 →
    exec .fieldMonth s = .next { s.afterNow with
      cursor := 2, returned := s.returned ++ [bcd (civil s.now.toInt).month.toNat] } ∧
    exec .rdData s = exec .fieldMonth s ∧
    0 ≤ (civil s.now.toInt).month ∧ (civil s.now.toInt).month ≤ 11

/-- R128: at CURSOR 2 the day of the month is returned as BCD, and CURSOR becomes 3. -/
def Obligations.FieldDayReturnsTheDayOfTheMonth : Prop :=
  ∀ s : State, s.cmd = 0x15#8 → s.cursor = 2 →
    exec .fieldDay s = .next { s.afterNow with
      cursor := 3, returned := s.returned ++ [bcd (civil s.now.toInt).mday.toNat] } ∧
    exec .rdData s = exec .fieldDay s ∧
    1 ≤ (civil s.now.toInt).mday ∧ (civil s.now.toInt).mday ≤ 31

/-- R129: at CURSOR 3 the weekday is returned as BCD, and CURSOR becomes 4. The weekday is `(days + 4) mod 7` on the days
since 1970-01-01 (R112): that 0 is Sunday is the spec's own decision D8. -/
def Obligations.FieldWdayReturnsTheWeekday : Prop :=
  ∀ s : State, s.cmd = 0x15#8 → s.cursor = 3 →
    exec .fieldWday s = .next { s.afterNow with
      cursor := 4, returned := s.returned ++ [bcd (civil s.now.toInt).wday.toNat] } ∧
    exec .rdData s = exec .fieldWday s ∧
    (civil s.now.toInt).wday = (s.now.toInt / 86400 + 4) % 7 ∧
    0 ≤ (civil s.now.toInt).wday ∧ (civil s.now.toInt).wday ≤ 6

/-- R130: at CURSOR 4 the hour of the 24-hour clock is returned as BCD, and CURSOR becomes 5. -/
def Obligations.FieldHourReturnsTheHour : Prop :=
  ∀ s : State, s.cmd = 0x15#8 → s.cursor = 4 →
    exec .fieldHour s = .next { s.afterNow with
      cursor := 5, returned := s.returned ++ [bcd (civil s.now.toInt).hour.toNat] } ∧
    exec .rdData s = exec .fieldHour s ∧
    0 ≤ (civil s.now.toInt).hour ∧ (civil s.now.toInt).hour ≤ 23

/-- R131: at CURSOR 5 the minute is returned as BCD, and CURSOR becomes 6. -/
def Obligations.FieldMinReturnsTheMinute : Prop :=
  ∀ s : State, s.cmd = 0x15#8 → s.cursor = 5 →
    exec .fieldMin s = .next { s.afterNow with
      cursor := 6, returned := s.returned ++ [bcd (civil s.now.toInt).minute.toNat] } ∧
    exec .rdData s = exec .fieldMin s ∧
    0 ≤ (civil s.now.toInt).minute ∧ (civil s.now.toInt).minute ≤ 59

/-- R132: at CURSOR 6 the second is returned as BCD, CURSOR wraps to 0, and the FSM stays in Streaming. -/
def Obligations.FieldSecReturnsTheSecondAndWraps : Prop :=
  ∀ s : State, s.cmd = 0x15#8 → s.cursor = 6 →
    exec .fieldSec s = .next { s.afterNow with
      cursor := 0, returned := s.returned ++ [bcd (civil s.now.toInt).second.toNat] } ∧
    exec .rdData s = exec .fieldSec s ∧
    ({ s.afterNow with
      cursor := 0, returned := s.returned ++ [bcd (civil s.now.toInt).second.toNat] } : State).fsm = .streaming ∧
    0 ≤ (civil s.now.toInt).second ∧ (civil s.now.toInt).second ≤ 59

/-- R117, R125: in Streaming a data-port read is the streaming read; it always completes, returns one byte, moves CURSOR
one on with 6 wrapping to 0 whatever byte it returned, and changes no other field of the record. -/
def Obligations.StreamingReadMovesTheCursorOneOn : Prop :=
  ∀ s : State, s.cmd = 0x15#8 → ∃ t b, exec .rdDataStream s = .next t ∧ exec .rdData s = .next t ∧
    (s.cursor.val = 6 → t.cursor.val = 0) ∧ (s.cursor.val < 6 → t.cursor.val = s.cursor.val + 1) ∧
    t.returned = s.returned ++ [b] ∧ t.cmd = s.cmd ∧ t.data = s.data ∧ t.mode = s.mode ∧ t.time = s.time ∧
    t.acc = s.acc

/-- R111, D17: a streaming read in real-time mode and a real-time INIT ask the host clock exactly once, and no other
operation asks it. That the rows of the streaming read ask it also where state does not select them is the model's
choice (log entry 17), as is the list of supplied answers (log entry 6). -/
def Obligations.HostClockIsAskedExactlyWhereTheSpecSays : Prop :=
  ∀ (i : Instr) (s t : State), exec i s = .next t →
    t.hostQueries = s.hostQueries + hostCalls i s ∧ t.hostAnswers = s.hostAnswers.drop (hostCalls i s)

/-- R133: nothing is latched: seconds carried between two streaming reads are seen by the second read. From every CURSOR
the first read returns the field at CURSOR of the old time and the second the next field of the new time; a year outside
the window is a byte the rules do not determine (R115). -/
def Obligations.AStreamingReadShowsTheTimeAtThatRead : Prop :=
  ∀ (s : State) (k : Nat), s.cmd = 0x15#8 → s.mode = .simulated →
    s.acc < 3072000 → s.time.toInt + k ≤ 9223372036854775807 →
    ∃ (b c : Byte) (d : Nat),
      execAll [.rdData, .advance (3072000 * k), .rdData] s = .next { s with
        cursor := s.cursor + 2, time := BitVec.ofInt 64 (s.time.toInt + k), draws := d,
        returned := s.returned ++ [b, c] } ∧
      ((s.cursor = 0 → InWindow s.time.toInt) → b = bcd ((civil s.time.toInt).field s.cursor).toNat) ∧
      ((s.cursor = 6 → InWindow (s.time.toInt + k)) →
        c = bcd ((civil (s.time.toInt + k)).field (s.cursor + 1)).toNat)

/-- R125, R185: without rewriting the command, `k` further passes of seven reads return the same seven bytes `k` times,
and the read after them is the year again. -/
def Obligations.ReadsPastTheSeventhRestartAtTheYear : Prop :=
  ∀ (k : Nat) (s : State), s.cmd = 0x15#8 → s.cursor = 0 → s.mode = .simulated → InWindow s.time.toInt →
    execAll (List.replicate (7 * k + 1) .rdData) s =
      .next { s with
        cursor := 1
        returned := s.returned ++
          (List.replicate k
            [bcd ((civil s.time.toInt).year - 100).toNat, bcd (civil s.time.toInt).month.toNat,
             bcd (civil s.time.toInt).mday.toNat, bcd (civil s.time.toInt).wday.toNat,
             bcd (civil s.time.toInt).hour.toNat, bcd (civil s.time.toInt).minute.toNat,
             bcd (civil s.time.toInt).second.toNat]).flatten ++
          [bcd ((civil s.time.toInt).year - 100).toNat] }

/-- R50, R134: the clean pass as the bus master sees it: one write of 0x15 to the command port and seven reads of the
data port, served by eight steps. -/
def Obligations.ACleanPassThroughThePorts : Prop :=
  ∀ (s : State) (rest : List Arrival), s.created = true → s.mode = .simulated → InWindow s.time.toInt →
    s.inbox = .one (.write Config.cmdPort 1 0x15) :: (List.replicate 7 (.one (.read Config.dataPort 1)) ++ rest) →
    runSteps 8 s =
      .next { s with
        inbox := rest
        cmd := 0x15#8, cursor := 0
        returned := s.returned ++
          [bcd ((civil s.time.toInt).year - 100).toNat, bcd (civil s.time.toInt).month.toNat,
           bcd (civil s.time.toInt).mday.toNat, bcd (civil s.time.toInt).wday.toNat,
           bcd (civil s.time.toInt).hour.toNat, bcd (civil s.time.toInt).minute.toNat,
           bcd (civil s.time.toInt).second.toNat] }

/-- R135, R184: in real-time mode each of the seven reads shows its own field of its own host-clock answer, and nothing
relates the answers to one another or to TIME. That the answers stand in a list supplied in advance is the model's
choice (log entry 6). -/
def Obligations.ARealtimePassSamplesTheHostClockSevenTimes : Prop :=
  ∀ (s : State) (h0 h1 h2 h3 h4 h5 h6 : Seconds) (rest : List Seconds),
    s.mode = .realtime → s.hostAnswers = [h0, h1, h2, h3, h4, h5, h6] ++ rest → InWindow h0.toInt →
    execAll stream7 s =
      .next { s with
        cmd := 0x15#8, cursor := 0, hostAnswers := rest, hostQueries := s.hostQueries + 7
        returned := s.returned ++
          [bcd ((civil h0.toInt).year - 100).toNat, bcd (civil h1.toInt).month.toNat,
           bcd (civil h2.toInt).mday.toNat, bcd (civil h3.toInt).wday.toNat,
           bcd (civil h4.toInt).hour.toNat, bcd (civil h5.toInt).minute.toNat,
           bcd (civil h6.toInt).second.toNat] }

/-! ### The clock accumulator (42_clock_accumulator.md) -/

/-- R140: INIT completes in every state and in both modes: MODE and TIME as given, ACC 0, CMD, DATA and CURSOR some
values of their types, and the host clock asked once in real-time mode and not at all in simulated mode. -/
def Obligations.InitSetsModeTimeAndAcc : Prop :=
  ∀ (t : Seconds) (s : State),
    (∃ (c d : Byte) (k : Cursor), exec (.init t false) s = .next { s with
      cmd := c, data := d, cursor := k, mode := .simulated, time := t, acc := 0
      created := true, draws := s.draws + 1 }) ∧
    (∃ (c d : Byte) (k : Cursor), exec (.init t true) s = .next { s with
      cmd := c, data := d, cursor := k, mode := .realtime, time := s.hostAnswer, acc := 0
      created := true, draws := s.draws + 1, hostAnswers := s.hostAnswers.tail, hostQueries := s.hostQueries + 1 })

/-- The model's choice (log entry 5, from R150): the state after reset is what an INIT with the launch parameters makes
of the state before the first INIT. -/
def Obligations.ResetIsTheStateAfterTheLaunchingInit : Prop :=
  exec (.init Config.launchSeconds Config.launchRealtime) State.beforeFirstInit = .next State.reset

/-- R143: in simulated mode ADVANCE adds the whole seconds of `ACC + n` to TIME and keeps the remainder, and changes
nothing else. -/
def Obligations.AdvanceCarriesWholeSeconds : Prop :=
  ∀ (n : Nat) (s : State), s.mode = .simulated →
    s.time.toInt + ((s.acc + n) / 3072000 : Nat) ≤ 9223372036854775807 →
    ∃ t : Seconds, exec (.advance n) s = .next { s with time := t, acc := (s.acc + n) % 3072000 } ∧
      t.toInt = s.time.toInt + ((s.acc + n) / 3072000 : Nat)

/-- R141: in real-time mode ADVANCE changes nothing; in simulated mode it does what the source's carry loop does, run to
its end, where that end is within 64 bits (R148), and changes TIME and ACC only. -/
def Obligations.AdvanceIsTheCarryLoopInSimulatedMode : Prop :=
  ∀ (n : Nat) (s : State),
    (s.mode = .realtime → exec (.advance n) s = .next s) ∧
    ∀ fuel : Nat, s.mode = .simulated → (s.acc + n) / 3072000 ≤ fuel →
      (carryLoop fuel (s.acc + n) s.time.toInt).2 ≤ 9223372036854775807 →
      exec (.advance n) s = .next { s with
        acc := (carryLoop fuel (s.acc + n) s.time.toInt).1
        time := BitVec.ofInt 64 (carryLoop fuel (s.acc + n) s.time.toInt).2 } ∧
      (carryLoop fuel (s.acc + n) s.time.toInt).1 < 3072000

/-- R148: ADVANCE has no meaning exactly where, in simulated mode, it would increment TIME past `2^63 - 1`. -/
def Obligations.AdvanceIsRefusedExactlyAtTheEndOfTime : Prop :=
  ∀ (n : Nat) (s : State),
    exec (.advance n) s = .refused .timeOverflow ↔
      s.mode = .simulated ∧ 9223372036854775807 < s.time.toInt + ((s.acc + n) / 3072000 : Nat)

/-- R141 corner case a: ADVANCE(0) changes nothing in any mode, in every state that keeps the invariant. -/
def Obligations.AdvanceZeroChangesNothing : Prop :=
  ∀ s : State, s.Inv → exec (.advance 0) s = .next s

/-- R144: a sequence of ADVANCE calls does what one call with the sum of their counts does, the end of time included,
in every state that keeps the invariant. -/
def Obligations.AdvanceDoesNotDependOnTheSplit : Prop :=
  ∀ (ns : List Nat) (s : State), s.Inv → execAll (ns.map .advance) s = exec (.advance ns.sum) s

/-- R72: `ADVSEC k` in simulated mode adds exactly `k` to TIME and leaves ACC and everything else unchanged. -/
def Obligations.AdvancingBySecondsKeepsTheRemainder : Prop :=
  ∀ (k : Nat) (s : State), s.mode = .simulated → s.acc < 3072000 →
    s.time.toInt + k ≤ 9223372036854775807 →
    ∃ t : Seconds, execAll (advanceSeconds k) s = .next { s with time := t } ∧ t.toInt = s.time.toInt + k

/-- R145: in simulated mode, whatever port operations are interleaved, TIME and ACC depend only on the sum of the
cycles. -/
def Obligations.InterleavedPortAccessesDoNotDisturbTheClock : Prop :=
  ∀ (is : List Instr) (s t : State), s.mode = .simulated → s.acc < 3072000 → (∀ i ∈ is, isInit i = false) →
    execAll is s = .next t →
    t.time.toInt = s.time.toInt + ((s.acc + (is.map cyclesOf).sum) / 3072000 : Nat) ∧
    t.acc = (s.acc + (is.map cyclesOf).sum) % 3072000

/-- R147: where `ACC + n` does not reach `2^W`, ADVANCE does what a `W`-bit accumulator with wrap-around addition does: it
keeps that sum's remainder and adds that sum's seconds, up to the end of TIME (R148). It suffices that
`n <= 2^W - 3072000`; for `W = 32` that is any call of at most 4,291,895,296 cycles. -/
def Obligations.AFixedWidthAccumulatorIsExactWithoutOverflow : Prop :=
  ∀ (width n : Nat) (s : State),
    (s.mode = .simulated → AdvanceNoOverflow width s.acc n →
      s.time.toInt + ((s.acc + n) / 3072000 : Nat) ≤ 9223372036854775807 →
      ∃ t : Seconds,
        exec (.advance n) s = .next { s with time := t, acc := wrappedSum width s.acc n % 3072000 } ∧
        t.toInt = s.time.toInt + (wrappedSum width s.acc n / 3072000 : Nat)) ∧
    (s.acc < 3072000 → n + 3072000 ≤ 2 ^ width → AdvanceNoOverflow width s.acc n) ∧
    (s.acc < 3072000 → n ≤ 4291895296 → AdvanceNoOverflow 32 s.acc n)

/-! ### Invariants and hidden state (10_state.md) -/

/-- R30: every step keeps the invariant: ACC stays below 3,072,000, and at 0 in real-time mode. -/
def Obligations.EveryStepKeepsTheAccumulatorInvariant : Prop :=
  ∀ s t : State, s.Inv → step s = .next t → t.Inv

/-- R32: the state after reset has the invariant. -/
def Obligations.ResetHasTheAccumulatorInvariant : Prop :=
  State.reset.Inv

/-- R25, R30 items 3 and 4: between two INITs MODE is constant, and in real-time mode TIME and ACC are too. -/
def Obligations.ModeIsFixedBetweenInits : Prop :=
  ∀ (is : List Instr) (s t : State), (∀ i ∈ is, isInit i = false) → execAll is s = .next t →
    t.mode = s.mode ∧ (s.mode = .realtime → t.time = s.time ∧ t.acc = s.acc)

/-- R26: in real-time mode no operation depends on TIME until the next INIT: another TIME changes neither the bytes
returned nor any other field. The equal bytes rest on the model's choice that equal draw numbers give equal draws, for a
year read outside the window (log entry 11), and that equal query numbers give equal host-clock answers where none is
supplied (log entry 6). -/
def Obligations.RealtimeModeNeverReadsTime : Prop :=
  ∀ (is : List Instr) (s : State) (other : Seconds), s.mode = .realtime → (∀ i ∈ is, isInit i = false) →
    ∃ t, execAll is s = .next t ∧ execAll is { s with time := other } = .next { t with time := other }

/-- R31: in Idle CURSOR cannot be observed: after any number of steps, two runs that differ only in the CURSOR they
started with have returned the same bytes, and stop alike. The equal bytes rest on the model's choice that equal draw
numbers give equal draws, at an INIT (log entry 4) and at a year read outside the window (log entry 11), and that equal
query numbers give equal host-clock answers where none is supplied (log entry 6). -/
def Obligations.CursorIsUnobservableInIdle : Prop :=
  ∀ (k : Nat) (s : State) (other : Cursor), s.cmd ≠ 0x15#8 →
    (∀ t, runSteps k s = .next t →
      ∃ u, runSteps k { s with cursor := other } = .next u ∧ u.returned = t.returned) ∧
    (∀ r, runSteps k s = .refused r →
      runSteps k { s with cursor := other } = .refused r)
end

