-- ==== Sys2Proof/Laws/State.lean ====
section
/-!
SUPPORT. Sys2Proof/Laws/State.lean: what each named update of the state does to each field.
-/

namespace Sys2Proof.Machine

section
variable (v : Byte) (s : State)
@[simp] theorem State.setCmd_cmd : (s.setCmd v).cmd = v := rfl
@[simp] theorem State.setCmd_data : (s.setCmd v).data = s.data := rfl
@[simp] theorem State.setCmd_cursor : (s.setCmd v).cursor = s.cursor := rfl
@[simp] theorem State.setCmd_mode : (s.setCmd v).mode = s.mode := rfl
@[simp] theorem State.setCmd_time : (s.setCmd v).time = s.time := rfl
@[simp] theorem State.setCmd_acc : (s.setCmd v).acc = s.acc := rfl
@[simp] theorem State.setCmd_created : (s.setCmd v).created = s.created := rfl
@[simp] theorem State.setCmd_inbox : (s.setCmd v).inbox = s.inbox := rfl
@[simp] theorem State.setCmd_hostAnswers : (s.setCmd v).hostAnswers = s.hostAnswers := rfl
@[simp] theorem State.setCmd_hostQueries : (s.setCmd v).hostQueries = s.hostQueries := rfl
@[simp] theorem State.setCmd_draws : (s.setCmd v).draws = s.draws := rfl
@[simp] theorem State.setCmd_returned : (s.setCmd v).returned = s.returned := rfl
end

section
variable (v : Byte) (s : State)
@[simp] theorem State.setData_cmd : (s.setData v).cmd = s.cmd := rfl
@[simp] theorem State.setData_data : (s.setData v).data = v := rfl
@[simp] theorem State.setData_cursor : (s.setData v).cursor = s.cursor := rfl
@[simp] theorem State.setData_mode : (s.setData v).mode = s.mode := rfl
@[simp] theorem State.setData_time : (s.setData v).time = s.time := rfl
@[simp] theorem State.setData_acc : (s.setData v).acc = s.acc := rfl
@[simp] theorem State.setData_created : (s.setData v).created = s.created := rfl
@[simp] theorem State.setData_inbox : (s.setData v).inbox = s.inbox := rfl
@[simp] theorem State.setData_hostAnswers : (s.setData v).hostAnswers = s.hostAnswers := rfl
@[simp] theorem State.setData_hostQueries : (s.setData v).hostQueries = s.hostQueries := rfl
@[simp] theorem State.setData_draws : (s.setData v).draws = s.draws := rfl
@[simp] theorem State.setData_returned : (s.setData v).returned = s.returned := rfl
end

section
variable (c : Cursor) (s : State)
@[simp] theorem State.setCursor_cmd : (s.setCursor c).cmd = s.cmd := rfl
@[simp] theorem State.setCursor_data : (s.setCursor c).data = s.data := rfl
@[simp] theorem State.setCursor_cursor : (s.setCursor c).cursor = c := rfl
@[simp] theorem State.setCursor_mode : (s.setCursor c).mode = s.mode := rfl
@[simp] theorem State.setCursor_time : (s.setCursor c).time = s.time := rfl
@[simp] theorem State.setCursor_acc : (s.setCursor c).acc = s.acc := rfl
@[simp] theorem State.setCursor_created : (s.setCursor c).created = s.created := rfl
@[simp] theorem State.setCursor_inbox : (s.setCursor c).inbox = s.inbox := rfl
@[simp] theorem State.setCursor_hostAnswers : (s.setCursor c).hostAnswers = s.hostAnswers := rfl
@[simp] theorem State.setCursor_hostQueries : (s.setCursor c).hostQueries = s.hostQueries := rfl
@[simp] theorem State.setCursor_draws : (s.setCursor c).draws = s.draws := rfl
@[simp] theorem State.setCursor_returned : (s.setCursor c).returned = s.returned := rfl
end

section
variable (t : Seconds) (a : Nat) (s : State)
@[simp] theorem State.setClock_cmd : (s.setClock t a).cmd = s.cmd := rfl
@[simp] theorem State.setClock_data : (s.setClock t a).data = s.data := rfl
@[simp] theorem State.setClock_cursor : (s.setClock t a).cursor = s.cursor := rfl
@[simp] theorem State.setClock_mode : (s.setClock t a).mode = s.mode := rfl
@[simp] theorem State.setClock_time : (s.setClock t a).time = t := rfl
@[simp] theorem State.setClock_acc : (s.setClock t a).acc = a := rfl
@[simp] theorem State.setClock_created : (s.setClock t a).created = s.created := rfl
@[simp] theorem State.setClock_inbox : (s.setClock t a).inbox = s.inbox := rfl
@[simp] theorem State.setClock_hostAnswers : (s.setClock t a).hostAnswers = s.hostAnswers := rfl
@[simp] theorem State.setClock_hostQueries : (s.setClock t a).hostQueries = s.hostQueries := rfl
@[simp] theorem State.setClock_draws : (s.setClock t a).draws = s.draws := rfl
@[simp] theorem State.setClock_returned : (s.setClock t a).returned = s.returned := rfl
end

section
variable (b : Byte) (s : State)
@[simp] theorem State.respond_cmd : (s.respond b).cmd = s.cmd := rfl
@[simp] theorem State.respond_data : (s.respond b).data = s.data := rfl
@[simp] theorem State.respond_cursor : (s.respond b).cursor = s.cursor := rfl
@[simp] theorem State.respond_mode : (s.respond b).mode = s.mode := rfl
@[simp] theorem State.respond_time : (s.respond b).time = s.time := rfl
@[simp] theorem State.respond_acc : (s.respond b).acc = s.acc := rfl
@[simp] theorem State.respond_created : (s.respond b).created = s.created := rfl
@[simp] theorem State.respond_inbox : (s.respond b).inbox = s.inbox := rfl
@[simp] theorem State.respond_hostAnswers : (s.respond b).hostAnswers = s.hostAnswers := rfl
@[simp] theorem State.respond_hostQueries : (s.respond b).hostQueries = s.hostQueries := rfl
@[simp] theorem State.respond_draws : (s.respond b).draws = s.draws := rfl
@[simp] theorem State.respond_returned : (s.respond b).returned = s.returned ++ [b] := rfl
end

section
variable (s : State)
@[simp] theorem State.useDraw_cmd : s.useDraw.cmd = s.cmd := rfl
@[simp] theorem State.useDraw_data : s.useDraw.data = s.data := rfl
@[simp] theorem State.useDraw_cursor : s.useDraw.cursor = s.cursor := rfl
@[simp] theorem State.useDraw_mode : s.useDraw.mode = s.mode := rfl
@[simp] theorem State.useDraw_time : s.useDraw.time = s.time := rfl
@[simp] theorem State.useDraw_acc : s.useDraw.acc = s.acc := rfl
@[simp] theorem State.useDraw_created : s.useDraw.created = s.created := rfl
@[simp] theorem State.useDraw_inbox : s.useDraw.inbox = s.inbox := rfl
@[simp] theorem State.useDraw_hostAnswers : s.useDraw.hostAnswers = s.hostAnswers := rfl
@[simp] theorem State.useDraw_hostQueries : s.useDraw.hostQueries = s.hostQueries := rfl
@[simp] theorem State.useDraw_draws : s.useDraw.draws = s.draws + 1 := rfl
@[simp] theorem State.useDraw_returned : s.useDraw.returned = s.returned := rfl
end

section
variable (s : State)
@[simp] theorem State.askHost_cmd : s.askHost.cmd = s.cmd := rfl
@[simp] theorem State.askHost_data : s.askHost.data = s.data := rfl
@[simp] theorem State.askHost_cursor : s.askHost.cursor = s.cursor := rfl
@[simp] theorem State.askHost_mode : s.askHost.mode = s.mode := rfl
@[simp] theorem State.askHost_time : s.askHost.time = s.time := rfl
@[simp] theorem State.askHost_acc : s.askHost.acc = s.acc := rfl
@[simp] theorem State.askHost_created : s.askHost.created = s.created := rfl
@[simp] theorem State.askHost_inbox : s.askHost.inbox = s.inbox := rfl
@[simp] theorem State.askHost_hostAnswers : s.askHost.hostAnswers = s.hostAnswers.tail := rfl
@[simp] theorem State.askHost_hostQueries : s.askHost.hostQueries = s.hostQueries + 1 := rfl
@[simp] theorem State.askHost_draws : s.askHost.draws = s.draws := rfl
@[simp] theorem State.askHost_returned : s.askHost.returned = s.returned := rfl
end

section
variable (c : Call) (s : State)
@[simp] theorem State.issueFirst_cmd : (s.issueFirst c).cmd = s.cmd := rfl
@[simp] theorem State.issueFirst_data : (s.issueFirst c).data = s.data := rfl
@[simp] theorem State.issueFirst_cursor : (s.issueFirst c).cursor = s.cursor := rfl
@[simp] theorem State.issueFirst_mode : (s.issueFirst c).mode = s.mode := rfl
@[simp] theorem State.issueFirst_time : (s.issueFirst c).time = s.time := rfl
@[simp] theorem State.issueFirst_acc : (s.issueFirst c).acc = s.acc := rfl
@[simp] theorem State.issueFirst_created : (s.issueFirst c).created = s.created := rfl
@[simp] theorem State.issueFirst_inbox : (s.issueFirst c).inbox = .one c :: s.inbox := rfl
@[simp] theorem State.issueFirst_hostAnswers : (s.issueFirst c).hostAnswers = s.hostAnswers := rfl
@[simp] theorem State.issueFirst_hostQueries : (s.issueFirst c).hostQueries = s.hostQueries := rfl
@[simp] theorem State.issueFirst_draws : (s.issueFirst c).draws = s.draws := rfl
@[simp] theorem State.issueFirst_returned : (s.issueFirst c).returned = s.returned := rfl
end

section
variable (c : Call) (s : State)
@[simp] theorem State.issue_cmd : (s.issue c).cmd = s.cmd := rfl
@[simp] theorem State.issue_data : (s.issue c).data = s.data := rfl
@[simp] theorem State.issue_cursor : (s.issue c).cursor = s.cursor := rfl
@[simp] theorem State.issue_mode : (s.issue c).mode = s.mode := rfl
@[simp] theorem State.issue_time : (s.issue c).time = s.time := rfl
@[simp] theorem State.issue_acc : (s.issue c).acc = s.acc := rfl
@[simp] theorem State.issue_created : (s.issue c).created = s.created := rfl
@[simp] theorem State.issue_inbox : (s.issue c).inbox = s.inbox ++ [.one c] := rfl
@[simp] theorem State.issue_hostAnswers : (s.issue c).hostAnswers = s.hostAnswers := rfl
@[simp] theorem State.issue_hostQueries : (s.issue c).hostQueries = s.hostQueries := rfl
@[simp] theorem State.issue_draws : (s.issue c).draws = s.draws := rfl
@[simp] theorem State.issue_returned : (s.issue c).returned = s.returned := rfl
end

end Sys2Proof.Machine
end

