-- ==== Sys2Proof/Laws/Ops.lean ====
section
/-!
SUPPORT. Sys2Proof/Laws/Ops.lean: for each shared operation, once, everything it does.
-/

namespace Sys2Proof.Machine

/-! ### The status bit, CMD and the echo -/

theorem withStatus_eq (b : Byte) : withStatus b = b ||| 0x80#8 := rfl

theorem State.fsm_eq_streaming (s : State) : s.fsm = .streaming ↔ s.cmd = 0x15#8 := by
  unfold State.fsm Config.streamCmd
  split <;> simp_all

theorem State.fsm_eq_idle (s : State) : s.fsm = .idle ↔ s.cmd ≠ 0x15#8 := by
  unfold State.fsm Config.streamCmd
  split <;> simp_all

/-- R90: everything a command-port write does. -/
theorem writeCommand_eq (v : Byte) (s : State) :
    writeCommand v s = { s with cmd := v, cursor := if v = 0x15#8 then 0 else s.cursor } := by
  unfold writeCommand Config.streamCmd
  split <;> rfl

/-- R95: everything the echo does. -/
theorem echoData_eq (s : State) : echoData s = { s with returned := s.returned ++ [s.data ||| 0x80#8] } := rfl

/-! ### The host clock and the present instant -/

theorem State.hostAnswer_cons {s : State} {h : Seconds} {rest : List Seconds} (e : s.hostAnswers = h :: rest) :
    s.hostAnswer = h := by
  simp [State.hostAnswer, e]

theorem State.hostAnswer_nil {s : State} (e : s.hostAnswers = []) :
    s.hostAnswer = Config.hostClock s.hostQueries := by
  simp [State.hostAnswer, e]

theorem State.now_simulated {s : State} (h : s.mode = .simulated) : s.now = s.time := by
  simp [State.now, h]

theorem State.now_realtime {s : State} (h : s.mode = .realtime) : s.now = s.hostAnswer := by
  simp [State.now, h]

theorem State.afterNow_simulated {s : State} (h : s.mode = .simulated) : s.afterNow = s := by
  simp [State.afterNow, h]

theorem State.afterNow_realtime {s : State} (h : s.mode = .realtime) : s.afterNow = s.askHost := by
  simp [State.afterNow, h]

/-- Taking the present instant changes only what the host clock has been asked. -/
theorem State.afterNow_eq (s : State) :
    s.afterNow = { s with hostAnswers := s.afterNow.hostAnswers, hostQueries := s.afterNow.hostQueries } := by
  unfold State.afterNow
  split <;> rfl

section
variable (s : State)
@[simp] theorem State.afterNow_cmd : s.afterNow.cmd = s.cmd := by rw [s.afterNow_eq]
@[simp] theorem State.afterNow_data : s.afterNow.data = s.data := by rw [s.afterNow_eq]
@[simp] theorem State.afterNow_cursor : s.afterNow.cursor = s.cursor := by rw [s.afterNow_eq]
@[simp] theorem State.afterNow_mode : s.afterNow.mode = s.mode := by rw [s.afterNow_eq]
@[simp] theorem State.afterNow_time : s.afterNow.time = s.time := by rw [s.afterNow_eq]
@[simp] theorem State.afterNow_acc : s.afterNow.acc = s.acc := by rw [s.afterNow_eq]
@[simp] theorem State.afterNow_created : s.afterNow.created = s.created := by rw [s.afterNow_eq]
@[simp] theorem State.afterNow_inbox : s.afterNow.inbox = s.inbox := by rw [s.afterNow_eq]
@[simp] theorem State.afterNow_draws : s.afterNow.draws = s.draws := by rw [s.afterNow_eq]
@[simp] theorem State.afterNow_returned : s.afterNow.returned = s.returned := by rw [s.afterNow_eq]
end

/-! ### The streaming read -/

/-- R117 where the field value is in 0..99. -/
theorem emit_inRange {v : Int} (lo : 0 ≤ v) (hi : v ≤ 99) (next : Cursor) (s : State) :
    emit v next s = { s with cursor := next, returned := s.returned ++ [bcd v.toNat] } := by
  rw [emit, if_pos ⟨lo, hi⟩]
  rfl

/-- R115: the free byte. -/
theorem emit_outOfRange {v : Int} (out : ¬(0 ≤ v ∧ v ≤ 99)) (next : Cursor) (s : State) :
    emit v next s =
      { s with cursor := next, draws := s.draws + 1, returned := s.returned ++ [Config.drawYear s.draws] } := by
  rw [emit, if_neg out]
  rfl

/-- Everything emitting a byte can do. -/
theorem emit_cases (v : Int) (next : Cursor) (s : State) :
    ∃ b d, emit v next s = { s with cursor := next, draws := d, returned := s.returned ++ [b] } := by
  by_cases h : 0 ≤ v ∧ v ≤ 99
  · exact ⟨_, s.draws, emit_inRange h.1 h.2 next s⟩
  · exact ⟨_, _, emit_outOfRange h next s⟩

/-- R125: one further modulo 7, which is addition in the cursor's type. -/
theorem nextCursor_eq (c : Cursor) : nextCursor c = c + 1 := by revert c; decide

/-- Everything a streaming read can do. -/
theorem streamField_cases (k : Cursor) (s : State) :
    ∃ b d, streamField k s =
      { s.afterNow with cursor := nextCursor k, draws := d, returned := s.returned ++ [b] } := by
  obtain ⟨b, d, e⟩ := emit_cases (s.nowCivil.field k) (nextCursor k) s.afterNow
  exact ⟨b, d, by rw [streamField, e, State.afterNow_returned]⟩

section
variable (k : Cursor) (s : State)
@[simp] theorem streamField_cmd : (streamField k s).cmd = s.cmd := by
  obtain ⟨_, _, e⟩ := streamField_cases k s; simp [e]
@[simp] theorem streamField_data : (streamField k s).data = s.data := by
  obtain ⟨_, _, e⟩ := streamField_cases k s; simp [e]
@[simp] theorem streamField_cursor : (streamField k s).cursor = nextCursor k := by
  obtain ⟨_, _, e⟩ := streamField_cases k s; simp [e]
@[simp] theorem streamField_mode : (streamField k s).mode = s.mode := by
  obtain ⟨_, _, e⟩ := streamField_cases k s; simp [e]
@[simp] theorem streamField_time : (streamField k s).time = s.time := by
  obtain ⟨_, _, e⟩ := streamField_cases k s; simp [e]
@[simp] theorem streamField_acc : (streamField k s).acc = s.acc := by
  obtain ⟨_, _, e⟩ := streamField_cases k s; simp [e]
@[simp] theorem streamField_created : (streamField k s).created = s.created := by
  obtain ⟨_, _, e⟩ := streamField_cases k s; simp [e]
@[simp] theorem streamField_inbox : (streamField k s).inbox = s.inbox := by
  obtain ⟨_, _, e⟩ := streamField_cases k s; simp [e]
@[simp] theorem streamField_hostAnswers : (streamField k s).hostAnswers = s.afterNow.hostAnswers := by
  obtain ⟨_, _, e⟩ := streamField_cases k s; simp [e]
@[simp] theorem streamField_hostQueries : (streamField k s).hostQueries = s.afterNow.hostQueries := by
  obtain ⟨_, _, e⟩ := streamField_cases k s; simp [e]
end

/-! ### The lifecycle calls -/

theorem advanceClock_realtime {s : State} (h : s.mode = .realtime) (n : Nat) : advanceClock n s = s := by
  simp [advanceClock, h]

theorem advanceClock_simulated {s : State} (h : s.mode = .simulated) (n : Nat) :
    advanceClock n s =
      { s with time := BitVec.ofInt 64 (s.time.toInt + carries n s), acc := (s.acc + n) % Config.cyclesPerSecond } := by
  simp [advanceClock, h, State.setClock]

/-- Everything ADVANCE can do: it writes TIME and ACC only. -/
theorem advanceClock_cases (n : Nat) (s : State) :
    ∃ t a, advanceClock n s = { s with time := t, acc := a } := by
  unfold advanceClock
  split
  · exact ⟨s.time, s.acc, rfl⟩
  · exact ⟨_, _, rfl⟩

/-- R140 in simulated mode. -/
theorem launch_simulated (t : Seconds) (s : State) :
    launch t false s =
      { s with cmd := Config.drawCmd s.draws, data := Config.drawData s.draws, cursor := Config.drawCursor s.draws,
               mode := .simulated, time := t, acc := 0, created := true, draws := s.draws + 1 } := rfl

/-- R140 in real-time mode. -/
theorem launch_realtime (t : Seconds) (s : State) :
    launch t true s =
      { s with cmd := Config.drawCmd s.draws, data := Config.drawData s.draws, cursor := Config.drawCursor s.draws,
               mode := .realtime, time := s.hostAnswer, acc := 0, created := true, draws := s.draws + 1,
               hostAnswers := s.hostAnswers.tail, hostQueries := s.hostQueries + 1 } := rfl

/-- R147: a sum that fits in the width does not wrap. -/
theorem wrappedSum_eq {width acc n : Nat} (h : acc + n < 2 ^ width) : wrappedSum width acc n = acc + n := by
  rw [wrappedSum, BitVec.toNat_add, BitVec.toNat_ofNat, BitVec.toNat_ofNat, Nat.mod_eq_of_lt (a := acc) (by omega),
    Nat.mod_eq_of_lt (a := n) (by omega), Nat.mod_eq_of_lt h]

end Sys2Proof.Machine
end

