-- ==== Sys2Proof/Laws/Exec.lean ====
section
/-!
SUPPORT. Sys2Proof/Laws/Exec.lean: what `exec`, `fetch` and `step` can do, said once.
-/

namespace Sys2Proof.Machine

section
variable (s : State)
@[simp] theorem exec_rdNone (a : Nat) : exec (.rdNone a) s = .next (s.respond Config.readDefault) := rfl
@[simp] theorem exec_rdCmd : exec .rdCmd s = .next (s.respond (withStatus s.cmd)) := rfl
theorem exec_rdData :
    exec .rdData s = .next (if s.cmd = Config.streamCmd then streamField s.cursor s else echoData s) := rfl
@[simp] theorem exec_rdDataEcho : exec .rdDataEcho s = .next (echoData s) := rfl
@[simp] theorem exec_rdDataStream : exec .rdDataStream s = .next (streamField s.cursor s) := rfl
@[simp] theorem exec_wrNone (a : Nat) (v : Byte) : exec (.wrNone a v) s = .next s := rfl
@[simp] theorem exec_wrCmd (v : Byte) : exec (.wrCmd v) s = .next (writeCommand v s) := rfl
@[simp] theorem exec_wrData (v : Byte) : exec (.wrData v) s = .next (s.setData v) := rfl
@[simp] theorem exec_init (t : Seconds) (rt : Bool) : exec (.init t rt) s = .next (launch t rt s) := rfl
theorem exec_advance (n : Nat) :
    exec (.advance n) s = if timeOverflows n s then .refused .timeOverflow else .next (advanceClock n s) := rfl
@[simp] theorem exec_cmdStream : exec .cmdStream s = .next (writeCommand Config.streamCmd s) := rfl
@[simp] theorem exec_cmdOther (v : Byte) : exec (.cmdOther v) s = .next (writeCommand v s) := rfl
@[simp] theorem exec_fieldYear : exec .fieldYear s = .next (streamField 0 s) := rfl
@[simp] theorem exec_fieldMonth : exec .fieldMonth s = .next (streamField 1 s) := rfl
@[simp] theorem exec_fieldDay : exec .fieldDay s = .next (streamField 2 s) := rfl
@[simp] theorem exec_fieldWday : exec .fieldWday s = .next (streamField 3 s) := rfl
@[simp] theorem exec_fieldHour : exec .fieldHour s = .next (streamField 4 s) := rfl
@[simp] theorem exec_fieldMin : exec .fieldMin s = .next (streamField 5 s) := rfl
@[simp] theorem exec_fieldSec : exec .fieldSec s = .next (streamField 6 s) := rfl
end

theorem exec_rdData_idle {s : State} (h : s.cmd ≠ 0x15#8) : exec .rdData s = .next (echoData s) := by
  rw [exec_rdData, if_neg (show ¬s.cmd = Config.streamCmd from h)]

theorem exec_rdData_streaming {s : State} (h : s.cmd = 0x15#8) :
    exec .rdData s = .next (streamField s.cursor s) := by
  rw [exec_rdData, if_pos (show s.cmd = Config.streamCmd from h)]

/-- Everything an operation that completes can do. -/
theorem exec_next_cases {i : Instr} {s t : State} (h : exec i s = .next t) :
    (∃ b, t = s.respond b) ∨ t = s ∨ (∃ v, t = writeCommand v s) ∨ (∃ v, t = s.setData v) ∨
    (∃ k, t = streamField k s) ∨ (∃ a rt, i = .init a rt ∧ t = launch a rt s) ∨
    (∃ n, i = .advance n ∧ timeOverflows n s = false ∧ t = advanceClock n s) := by
  cases i with
  | rdNone a => exact .inl ⟨_, by simpa using h.symm⟩
  | rdCmd => exact .inl ⟨_, by simpa using h.symm⟩
  | rdData =>
    rw [exec_rdData] at h
    split at h
    · exact .inr (.inr (.inr (.inr (.inl ⟨_, by simpa using h.symm⟩))))
    · exact .inl ⟨_, by simpa [echoData] using h.symm⟩
  | rdDataEcho => exact .inl ⟨_, by simpa [echoData] using h.symm⟩
  | rdDataStream => exact .inr (.inr (.inr (.inr (.inl ⟨_, by simpa using h.symm⟩))))
  | wrNone a v => exact .inr (.inl (by simpa using h.symm))
  | wrCmd v => exact .inr (.inr (.inl ⟨_, by simpa using h.symm⟩))
  | wrData v => exact .inr (.inr (.inr (.inl ⟨_, by simpa using h.symm⟩)))
  | init a rt => exact .inr (.inr (.inr (.inr (.inr (.inl ⟨a, rt, rfl, by simpa using h.symm⟩)))))
  | advance n =>
    rw [exec_advance] at h
    split at h
    · cases h
    · exact .inr (.inr (.inr (.inr (.inr (.inr ⟨n, rfl, by simp_all, by simpa using h.symm⟩)))))
  | cmdStream => exact .inr (.inr (.inl ⟨_, by simpa using h.symm⟩))
  | cmdOther v => exact .inr (.inr (.inl ⟨_, by simpa using h.symm⟩))
  | fieldYear => exact .inr (.inr (.inr (.inr (.inl ⟨_, by simpa using h.symm⟩))))
  | fieldMonth => exact .inr (.inr (.inr (.inr (.inl ⟨_, by simpa using h.symm⟩))))
  | fieldDay => exact .inr (.inr (.inr (.inr (.inl ⟨_, by simpa using h.symm⟩))))
  | fieldWday => exact .inr (.inr (.inr (.inr (.inl ⟨_, by simpa using h.symm⟩))))
  | fieldHour => exact .inr (.inr (.inr (.inr (.inl ⟨_, by simpa using h.symm⟩))))
  | fieldMin => exact .inr (.inr (.inr (.inr (.inl ⟨_, by simpa using h.symm⟩))))
  | fieldSec => exact .inr (.inr (.inr (.inr (.inl ⟨_, by simpa using h.symm⟩))))

/-- Everything taking the next operation can do. -/
theorem fetch_run {s t : State} {i : Instr} (h : fetch s = .run i t) :
    ∃ c rest, s.inbox = .one c :: rest ∧ c.instr = .ok i ∧ (s.created = true ∨ isInit i = true) ∧
      t = { s with inbox := rest } := by
  unfold fetch at h
  split at h
  · cases h
  · cases h
  · rename_i c rest e
    split at h
    · cases h
    · rename_i j ej
      split at h
      · rename_i hc
        cases h
        exact ⟨c, rest, e, ej, by simpa using hc, rfl⟩
      · cases h

/-- Everything a step that completes can do. -/
theorem step_next_cases {s t : State} (h : step s = .next t) :
    (s.inbox = [] ∧ t = s) ∨
    ∃ c rest i, s.inbox = .one c :: rest ∧ c.instr = .ok i ∧ (s.created = true ∨ isInit i = true) ∧
      exec i { s with inbox := rest } = .next t := by
  unfold step at h
  split at h
  · rename_i e
    refine .inl ⟨?_, by simpa using h.symm⟩
    unfold fetch at e
    split at e
    · assumption
    · cases e
    · split at e
      · cases e
      · split at e <;> cases e
  · rename_i i u e
    obtain ⟨c, rest, e1, e2, e3, rfl⟩ := fetch_run e
    exact .inr ⟨c, rest, i, e1, e2, e3, h⟩
  · cases h

theorem execAll_nil (s : State) : execAll [] s = .next s := rfl

theorem execAll_cons_next {i : Instr} {is : List Instr} {s t : State} (h : exec i s = .next t) :
    execAll (i :: is) s = execAll is t := by
  rw [execAll, h]

theorem runSteps_zero (s : State) : runSteps 0 s = .next s := rfl

theorem runSteps_succ_next {k : Nat} {s t : State} (h : step s = .next t) : runSteps (k + 1) s = runSteps k t := by
  rw [runSteps, h]

theorem runSteps_succ_refused {k : Nat} {s : State} {r : Refusal} (h : step s = .refused r) :
    runSteps (k + 1) s = .refused r := by
  rw [runSteps, h]

end Sys2Proof.Machine
end

