-- ==== Sys2Proof/Laws/Operands.lean ====
section
/-!
SUPPORT. Sys2Proof/Laws/Operands.lean: the address classification and the operation words of calls.
-/

namespace Sys2Proof.Machine

/-- R41: the two ports have different addresses. -/
theorem dataPort_ne_cmdPort : Config.dataPort ≠ Config.cmdPort := by
  unfold Config.dataPort
  split <;> omega

@[simp] theorem sel_cmdPort : sel Config.cmdPort = 0b01#2 := by simp [sel]

@[simp] theorem sel_dataPort : sel Config.dataPort = 0b10#2 := by simp [sel, dataPort_ne_cmdPort]

/-- R64: every other address is classified NONE. -/
theorem sel_other {addr : Nat} (hc : addr ≠ Config.cmdPort) (hd : addr ≠ Config.dataPort) :
    sel addr = 0b00#2 := by
  simp [sel, hc, hd]

theorem isOtherAddress_iff (addr : Nat) :
    isOtherAddress addr = true ↔ addr ≠ Config.cmdPort ∧ addr ≠ Config.dataPort := by
  simp [isOtherAddress]

end Sys2Proof.Machine
end

