-- ==== Sys2Proof/Laws/PerInstr.lean ====
section
/-!
SUPPORT. Sys2Proof/Laws/PerInstr.lean: the family TableRow: the selector bits of every row's word, under the row's mask
in spec/opcode_table.json, are the row's match.
-/

namespace Sys2Proof.Laws.TableRow

/-- The word `encode` gives a row has the opcode table's match under the table's mask. -/
def Statement (i : Instr) : Prop := tableBits (encode i) &&& rowMask i = rowMatch i

theorem rdNone (a : Nat) : Statement (.rdNone a) := by simp [Statement, tableBits, encode, rowMask, rowMatch]
theorem rdCmd : Statement .rdCmd := by simp [Statement, tableBits, encode, rowMask, rowMatch]
theorem rdData : Statement .rdData := by simp [Statement, tableBits, encode, rowMask, rowMatch]
theorem rdDataEcho : Statement .rdDataEcho := by simp [Statement, tableBits, encode, rowMask, rowMatch]
theorem rdDataStream : Statement .rdDataStream := by simp [Statement, tableBits, encode, rowMask, rowMatch]
theorem wrNone (a : Nat) (v : Byte) : Statement (.wrNone a v) := by
  simp [Statement, tableBits, encode, rowMask, rowMatch]
theorem wrCmd (v : Byte) : Statement (.wrCmd v) := by simp [Statement, tableBits, encode, rowMask, rowMatch]
theorem wrData (v : Byte) : Statement (.wrData v) := by simp [Statement, tableBits, encode, rowMask, rowMatch]
theorem init (t : Seconds) (rt : Bool) : Statement (.init t rt) := by
  simp [Statement, tableBits, encode, rowMask, rowMatch]
theorem advance (n : Nat) : Statement (.advance n) := by simp [Statement, tableBits, encode, rowMask, rowMatch]
theorem cmdStream : Statement .cmdStream := by
  simp [Statement, tableBits, encode, rowMask, rowMatch, Config.streamCmd]
theorem cmdOther (v : Byte) : Statement (.cmdOther v) := by simp [Statement, rowMask, rowMatch]
theorem fieldYear : Statement .fieldYear := by simp [Statement, tableBits, encode, rowMask, rowMatch]
theorem fieldMonth : Statement .fieldMonth := by simp [Statement, tableBits, encode, rowMask, rowMatch]
theorem fieldDay : Statement .fieldDay := by simp [Statement, tableBits, encode, rowMask, rowMatch]
theorem fieldWday : Statement .fieldWday := by simp [Statement, tableBits, encode, rowMask, rowMatch]
theorem fieldHour : Statement .fieldHour := by simp [Statement, tableBits, encode, rowMask, rowMatch]
theorem fieldMin : Statement .fieldMin := by simp [Statement, tableBits, encode, rowMask, rowMatch]
theorem fieldSec : Statement .fieldSec := by simp [Statement, tableBits, encode, rowMask, rowMatch]

end Sys2Proof.Laws.TableRow
end

