-- ==== Sys2Proof/Tests/Slice0.lean ====
section
/-!
SUPPORT. Sys2Proof/Tests/Slice0.lean: the smoke test of WellFormed, the decoding of words written out from the spec's
encodings, one-step tests whose expected values are those of spec/95_test_vectors.md (named by section), and a witness
for every obligation with hypotheses: a concrete state and operands that meet all of them together.
-/

namespace Sys2Proof.Tests
open Sys2Proof.Machine

/-! ### Helpers -/

/-- A block with this record, nothing pending, no host-clock answer supplied and nothing returned yet. -/
def st (cmd data : Byte) (cursor : Cursor) (mode : ClockMode) (time : Seconds) (acc : Nat) : State :=
  { State.beforeFirstInit with
    cmd := cmd, data := data, cursor := cursor, mode := mode, time := time, acc := acc, created := true }

/-- The state with these pending arrivals. -/
def pend (l : List Arrival) (s : State) : State := { s with inbox := l }

/-- The state with these host-clock answers supplied. -/
def host (l : List Seconds) (s : State) : State := { s with hostAnswers := l }

/-- The next state of an outcome. -/
def next? (o : Host.Outcome State Fault Refusal) : Option State :=
  match o with
  | .next t => some t
  | .fault _ => none
  | .refused _ => none

theorem eq_next_of_next? {o : Host.Outcome State Fault Refusal} {t : State} (h : next? o = some t) : o = .next t := by
  cases o <;> simp_all [next?]

/-- The refusal of an outcome. -/
def refusal? (o : Host.Outcome State Fault Refusal) : Option Refusal :=
  match o with
  | .next _ => none
  | .fault _ => none
  | .refused r => some r

/-- The bytes returned and CURSOR. -/
def reads (o : Host.Outcome State Fault Refusal) : Option (List Byte × Cursor) :=
  (next? o).map fun t => (t.returned, t.cursor)

/-- CMD, DATA and CURSOR. -/
def regs (o : Host.Outcome State Fault Refusal) : Option (Byte × Byte × Cursor) :=
  (next? o).map fun t => (t.cmd, t.data, t.cursor)

/-- MODE, TIME and ACC. -/
def clock (o : Host.Outcome State Fault Refusal) : Option (ClockMode × Seconds × Nat) :=
  (next? o).map fun t => (t.mode, t.time, t.acc)

/-- An address that is neither port. -/
def other : Nat := Config.cmdPort + Config.dataPort + 1

/-- Streaming at this cursor and time, in simulated mode (95_test_vectors.md section 2.4). -/
def strm (cursor : Cursor) (time : Seconds) : State := st 0x15#8 0x7F#8 cursor .simulated time 0

/-- 2009-02-13 23:31:30 (section 2.2). -/
def t2009 : Seconds := 1234567890#64

/-! ### Well-formedness: each check refuses an ill-formed term -/

theorem other_ne_cmdPort : other ≠ Config.cmdPort := by unfold other; omega
theorem other_ne_dataPort : other ≠ Config.dataPort := by unfold other; omega

theorem test_wf_rdNone_cmdPort : WellFormed (.rdNone Config.cmdPort) = false := by simp [WellFormed, isOtherAddress]
theorem test_wf_rdNone_dataPort : WellFormed (.rdNone Config.dataPort) = false := by simp [WellFormed, isOtherAddress]
theorem test_wf_wrNone_cmdPort : WellFormed (.wrNone Config.cmdPort 0) = false := by simp [WellFormed, isOtherAddress]
theorem test_wf_wrNone_dataPort : WellFormed (.wrNone Config.dataPort 0) = false := by
  simp [WellFormed, isOtherAddress]
theorem test_wf_cmdOther : WellFormed (.cmdOther 0x15#8) = false := by decide
theorem test_wf_accepts : WellFormed (.rdNone other) = true ∧ WellFormed (.wrNone other 0x15#8) = true ∧
    WellFormed (.cmdOther 0x95#8) = true := by
  simp [WellFormed, isOtherAddress, other_ne_cmdPort, other_ne_dataPort, Config.streamCmd]

/-! ### Decoding: words written out from R63, R65, R69 and the programs of section 3 -/

theorem test_decode_reads :
    decodeOp ⟨0b0000#4, [77]⟩ = .ok (.rdNone 77) ∧ decodeOp ⟨0b0001#4, []⟩ = .ok .rdCmd ∧
    decodeOp ⟨0b0010#4, []⟩ = .ok .rdData := by decide
theorem test_decode_writes :
    decodeOp ⟨0b0100#4, [77, 0x15]⟩ = .ok (.wrNone 77 0x15#8) ∧ decodeOp ⟨0b0101#4, [0x15]⟩ = .ok (.wrCmd 0x15#8) ∧
    decodeOp ⟨0b0110#4, [0x42]⟩ = .ok (.wrData 0x42#8) := by decide
theorem test_decode_lifecycle :
    decodeOp ⟨0b1000#4, [-1, 0]⟩ = .ok (.init 0xFFFFFFFFFFFFFFFF#64 false) ∧
    decodeOp ⟨0b1000#4, [1709251199, 1]⟩ = .ok (.init 1709251199#64 true) ∧
    decodeOp ⟨0b1001#4, [3072000]⟩ = .ok (.advance 3072000) := by decide
theorem test_decode_commands :
    decodeCommand 0b00010101#8 = .cmdStream ∧ decodeCommand 0b10010101#8 = .cmdOther 0x95#8 ∧
    decodeCommand 0b00000000#8 = .cmdOther 0x00#8 := by decide
theorem test_decode_fields :
    [0b000#3, 0b001#3, 0b010#3, 0b011#3, 0b100#3, 0b101#3, 0b110#3].map decodeField =
      [.ok .fieldYear, .ok .fieldMonth, .ok .fieldDay, .ok .fieldWday, .ok .fieldHour, .ok .fieldMin, .ok .fieldSec] := by
  decide
theorem test_decode_rejects :
    decodeOp ⟨0b0011#4, []⟩ = .error .cannotOccur ∧ decodeOp ⟨0b1010#4, []⟩ = .error .unassigned ∧
    decodeOp ⟨0b0101#4, []⟩ = .error .operandCount ∧ decodeOp ⟨0b0101#4, [256]⟩ = .error .operandRange ∧
    decodeOp ⟨0b1001#4, [-1]⟩ = .error .operandRange ∧ decodeField 0b111#3 = .error .cursorSeven := by decide
/-- The word of RD_DATA_ECHO and RD_DATA_STREAM is RD_DATA's (R62). -/
theorem test_encode_stateSelected :
    encode .rdDataEcho = .op ⟨0x2#4, []⟩ ∧ encode .rdDataStream = .op ⟨0x2#4, []⟩ := by decide
/-- R63: the direction bit and `sel` of an access to each port and to another address. -/
theorem test_portOpw :
    portOpw false Config.cmdPort = 0x1#4 ∧ portOpw true Config.cmdPort = 0x5#4 ∧
    portOpw false Config.dataPort = 0x2#4 ∧ portOpw true Config.dataPort = 0x6#4 ∧
    portOpw false other = 0x0#4 ∧ portOpw true other = 0x4#4 := by
  simp [portOpw, sel, dataPort_ne_cmdPort, other_ne_cmdPort, other_ne_dataPort]
/-- The opcode table's words, with the bits it gives them. -/
theorem test_decodeTableWord :
    decodeTableWord 8 0x09 = some (.advance 0) ∧ decodeTableWord 8 0x15 = some .cmdStream ∧
    decodeTableWord 0 0 = some (.cmdOther 0x00#8) ∧ decodeTableWord 3 6 = some .fieldSec := by decide
/-- A placed word is what the next step runs: the command byte 0x15, and the selector of the seconds. -/
theorem test_withFetchWord :
    (∃ t, step (State.reset.withFetchWord 8 0x15) = .next t ∧ t.cmd = 0x15#8 ∧ t.cursor = 0 ∧ t.inbox = []) ∧
    ∃ t, step (State.reset.withFetchWord 3 6) = .next t ∧ t.cmd = 0x15#8 ∧ t.cursor = 0 ∧ t.inbox = [] :=
  ⟨⟨_, rfl, rfl, rfl, rfl⟩, ⟨_, rfl, streamField_cmd .., streamField_cursor .., streamField_inbox ..⟩⟩

/-! ### One step of each row, against the vectors of 95_test_vectors.md -/

/-- 2.3: any state, `RD X` returns 0x00. -/
theorem test_rdNone : reads (exec (.rdNone 77) (strm 4 t2009)) = some ([0x00#8], 4) := by decide
/-- 2.3: `CMD = 0x7F` reads 0xFF, and `CMD = 0x15` reads 0x95 without moving the cursor. -/
theorem test_rdCmd : reads (exec .rdCmd (st 0x7F#8 0 0 .simulated 0 0)) = some ([0xFF#8], 0) ∧
    reads (exec .rdCmd (strm 4 t2009)) = some ([0x95#8], 4) := by decide
/-- 2.3: `CMD = 0x95, DATA = 0x15` echoes 0x95: 0x95 is not the streaming command. -/
theorem test_rdData_idle : reads (exec .rdData (st 0x95#8 0x15#8 2 .simulated t2009 0)) = some ([0x95#8], 2) := by
  decide
/-- P2 step 9: in Streaming the year 2009, not the data byte 0x7F. -/
theorem test_rdData_streaming : reads (exec .rdData (strm 0 t2009)) = some ([0x09#8], 1) := by decide
/-- 2.3: `CMD = 0x00, DATA = 0x42` echoes 0xC2. -/
theorem test_rdDataEcho : reads (exec .rdDataEcho (st 0 0x42#8 0 .simulated 0 0)) = some ([0xC2#8], 0) := by decide
/-- 2.4: `CURSOR = 6` returns 0x30 and wraps to 0. -/
theorem test_rdDataStream : reads (exec .rdDataStream (strm 6 t2009)) = some ([0x30#8], 0) := by decide
/-- R135: in real-time mode the host's answer 1709251199 shows the year 2024, whatever TIME is. -/
theorem test_rdDataStream_realtime :
    reads (exec .rdDataStream (host [1709251199#64] (st 0x15#8 0 0 .realtime t2009 0))) = some ([0x24#8], 1) := by
  decide
/-- 2.3: `WR X, 0x15` changes nothing. -/
theorem test_wrNone : regs (exec (.wrNone 77 0x15#8) (strm 4 t2009)) = some (0x15#8, 0x7F#8, 4) := by decide
/-- 2.3: `WR CMD, 0x15` at cursor 4, and `WR CMD, 0x95` at cursor 4. -/
theorem test_wrCmd : regs (exec (.wrCmd 0x15#8) (st 0 0 4 .simulated 0 0)) = some (0x15#8, 0, 0) ∧
    regs (exec (.wrCmd 0x95#8) (strm 4 t2009)) = some (0x95#8, 0x7F#8, 4) := by decide
/-- 2.3: `WR DATA, 0x33` in Streaming leaves CMD and CURSOR. -/
theorem test_wrData : regs (exec (.wrData 0x33#8) (strm 4 t2009)) = some (0x15#8, 0x33#8, 4) := by decide
/-- 2.6: `INIT -1, 0` after a run that left an accumulator. -/
theorem test_init_simulated :
    clock (exec (.init 0xFFFFFFFFFFFFFFFF#64 false) (st 0 0 0 .simulated 0 12345)) =
      some (.simulated, 0xFFFFFFFFFFFFFFFF#64, 0) := by decide
/-- 2.6: `INIT 946684800, 1` with the host's answer 1709251199. -/
theorem test_init_realtime :
    clock (exec (.init 946684800#64 true) (host [1709251199#64] (st 0 0 0 .simulated 0 12345))) =
      some (.realtime, 1709251199#64, 0) := by decide
/-- 2.5: `ACC = 5`, 6143995 cycles: two seconds and nothing left. -/
theorem test_advance_carries :
    clock (exec (.advance 6143995) (st 0 0 0 .simulated t2009 5)) = some (.simulated, 1234567892#64, 0) := by decide
/-- 2.5 with `MODE = 1`: nothing changes. -/
theorem test_advance_realtime :
    clock (exec (.advance 3072000) (st 0 0 0 .realtime t2009 0)) = some (.realtime, t2009, 0) := by decide
/-- R148: one second past `2^63 - 1` has no meaning. -/
theorem test_advance_overflow :
    refusal? (exec (.advance 3072000) (st 0 0 0 .simulated 0x7FFFFFFFFFFFFFFF#64 0)) = some .timeOverflow := by decide
/-- R98: the command byte 0x15. -/
theorem test_cmdStream : regs (exec .cmdStream (st 0 0x33#8 5 .simulated 0 0)) = some (0x15#8, 0x33#8, 0) := by decide
/-- R97: the command byte 0x14 keeps the cursor. -/
theorem test_cmdOther : regs (exec (.cmdOther 0x14#8) (strm 4 t2009)) = some (0x14#8, 0x7F#8, 4) := by decide
/-- 2.2: 2080-01-01 has the year byte 0x80. -/
theorem test_fieldYear : reads (exec .fieldYear (strm 0 3471292800#64)) = some ([0x80#8], 1) := by decide
/-- 2.2: December is 0x11. -/
theorem test_fieldMonth : reads (exec .fieldMonth (strm 1 978307199#64)) = some ([0x11#8], 2) := by decide
/-- 2.2: the leap day 2000-02-29. -/
theorem test_fieldDay : reads (exec .fieldDay (strm 2 951868799#64)) = some ([0x29#8], 3) := by decide
/-- 2.2: 2000-01-01 is a Saturday, 0x06. -/
theorem test_fieldWday : reads (exec .fieldWday (strm 3 946684800#64)) = some ([0x06#8], 4) := by decide
/-- 2.4: 23 hours. -/
theorem test_fieldHour : reads (exec .fieldHour (strm 4 t2009)) = some ([0x23#8], 5) := by decide
/-- 2.4: 31 minutes. -/
theorem test_fieldMin : reads (exec .fieldMin (strm 5 t2009)) = some ([0x31#8], 6) := by decide
/-- 2.2: second 59 of 1969-12-31T23:59:59Z, a negative time. -/
theorem test_fieldSec : reads (exec .fieldSec (strm 6 0xFFFFFFFFFFFFFFFF#64)) = some ([0x59#8], 0) := by decide
/-- 2.2: 2100 is no leap year, and floor division below the epoch. -/
theorem test_civil : civil 4102444800 = ⟨200, 0, 1, 5, 0, 0, 0⟩ ∧ civil (-1) = ⟨69, 11, 31, 3, 23, 59, 59⟩ ∧
    civil 1078099199 = ⟨104, 1, 29, 0, 23, 59, 59⟩ := by decide

/-! ### Witnesses: for each obligation with hypotheses, a state and operands that meet them -/

/-- An INIT is pending before the first INIT; a data-port read after it. -/
theorem witness_StepRunsTheDecodedOperation :
    ((pend [.one (.coded ⟨0x2#4, []⟩)] (strm 0 t2009)).inbox = .one (.coded ⟨0x2#4, []⟩) :: [] ∧
      (Call.coded ⟨0x2#4, []⟩).instr = .ok .rdData ∧
      ((pend [.one (.coded ⟨0x2#4, []⟩)] (strm 0 t2009)).created = true ∨ isInit .rdData = true)) ∧
    ((pend [.one (.init 0 false)] State.beforeFirstInit).inbox = .one (.init 0 false) :: [] ∧
      (Call.init 0 false).instr = .ok (.init 0 false) ∧
      ((pend [.one (.init 0 false)] State.beforeFirstInit).created = true ∨ isInit (.init 0 false) = true)) ∧
    decodeOp ⟨0x2#4, []⟩ = .ok .rdData := by decide

theorem witness_StepWithNothingPendingKeepsTheState : (strm 0 t2009).inbox = [] := rfl

/-- One state for each clause: the command port (with 0x15 and with 0xFF), the data port and another address. -/
theorem witness_PortWriteDispatchesOnTheAddress :
    (strm 4 t2009).created = true ∧
    (pend [.one (.write Config.cmdPort 1 (0x15#8).toNat)] (strm 4 t2009)).inbox =
      .one (.write Config.cmdPort 1 (0x15#8).toNat) :: [] ∧
    (pend [.one (.write Config.cmdPort 1 (0xFF#8).toNat)] (strm 4 t2009)).inbox =
      .one (.write Config.cmdPort 1 (0xFF#8).toNat) :: [] ∧
    (pend [.one (.write Config.dataPort 1 (0xFF#8).toNat)] (strm 4 t2009)).inbox =
      .one (.write Config.dataPort 1 (0xFF#8).toNat) :: [] ∧
    (pend [.one (.write other 1 (0x00#8).toNat)] (strm 4 t2009)).inbox =
      .one (.write other 1 (0x00#8).toNat) :: [] ∧ other ≠ Config.cmdPort ∧ other ≠ Config.dataPort :=
  ⟨rfl, rfl, rfl, rfl, rfl, other_ne_cmdPort, other_ne_dataPort⟩

/-- One state for each clause: the command port, the data port in Idle (0x14) and in Streaming, another address. -/
theorem witness_PortReadDispatchesOnTheAddress :
    (strm 4 t2009).created = true ∧ (st 0x14#8 0 0 .simulated 0 0).created = true ∧
    (pend [.one (.read Config.cmdPort 1)] (strm 4 t2009)).inbox = .one (.read Config.cmdPort 1) :: [] ∧
    (pend [.one (.read Config.dataPort 1)] (st 0x14#8 0 0 .simulated 0 0)).inbox =
      .one (.read Config.dataPort 1) :: [] ∧ (st 0x14#8 0 0 .simulated 0 0).cmd ≠ 0x15#8 ∧
    (pend [.one (.read Config.dataPort 1)] (strm 4 t2009)).inbox = .one (.read Config.dataPort 1) :: [] ∧
    (strm 4 t2009).cmd = 0x15#8 ∧
    (pend [.one (.read other 1)] (strm 4 t2009)).inbox = .one (.read other 1) :: [] ∧
    other ≠ Config.cmdPort ∧ other ≠ Config.dataPort :=
  ⟨rfl, rfl, rfl, rfl, by decide, rfl, rfl, rfl, other_ne_cmdPort, other_ne_dataPort⟩

/-- Sizes 0 and 2, and the smallest value that is no byte. -/
theorem witness_AccessesThatAreNotOneByteAreRefused :
    ((2 : Nat) ≠ 1 ∧ (pend [.one (.write 5 2 0)] (strm 0 t2009)).inbox = .one (.write 5 2 0) :: []) ∧
    ((0 : Nat) ≠ 1 ∧ (pend [.one (.read 5 0)] (strm 0 t2009)).inbox = .one (.read 5 0) :: []) ∧
    ((255 : Nat) < 256 ∧ (pend [.one (.write 5 1 256)] (strm 0 t2009)).inbox = .one (.write 5 1 256) :: []) := by
  decide

theorem witness_SimultaneousOperationsAreRefused :
    (pend [.together (.advance 1) (.read 5 1)] (strm 0 t2009)).inbox = .together (.advance 1) (.read 5 1) :: [] := rfl

/-- An ADVANCE and an INIT before the first INIT. -/
theorem witness_OnlyInitRunsBeforeTheFirstInit :
    (pend [.one (.advance 1)] State.beforeFirstInit).created = false ∧
    (pend [.one (.advance 1)] State.beforeFirstInit).inbox = .one (.advance 1) :: [] ∧
    (Call.advance 1).instr = .ok (.advance 1) ∧ isInit (.advance 1) = false ∧
    (pend [.one (.init 0 true)] State.beforeFirstInit).inbox = .one (.init 0 true) :: [] ∧
    (Call.init 0 true).instr = .ok (.init 0 true) ∧ isInit (.init 0 true) = true := by decide

/-- Both words of the first clause, and the two ends of the second. -/
theorem witness_UnassignedOperationWordsAreRejected :
    (0x3#4 = 0x3#4 ∨ 0x3#4 = 0x7#4) ∧ (0x7#4 = 0x3#4 ∨ 0x7#4 = 0x7#4) ∧ 0xA#4 ≤ 0xA#4 ∧ 0xA#4 ≤ 0xF#4 := by decide

theorem witness_DecodeUndoesEncode :
    WellFormed (.wrNone other 0xFF#8) = true ∧ WellFormed (.cmdOther 0x14#8) = true ∧
    WellFormed (.init 0xFFFFFFFFFFFFFFFF#64 true) = true ∧ WellFormed .rdDataStream = true := by
  simp [WellFormed, isOtherAddress, other_ne_cmdPort, other_ne_dataPort, Config.streamCmd]

theorem witness_EveryOperationHasOneWord :
    decode (.op ⟨0x8#4, [-1, 1]⟩) = .ok (.init 0xFFFFFFFFFFFFFFFF#64 true) ∧
    decode (.command 0x14#8) = .ok (.cmdOther 0x14#8) ∧ decode (.field 6#3) = .ok .fieldSec := by decide

theorem witness_RdDataEchoReturnsDataWithTheStatusBit : (st 0x14#8 0xFF#8 3 .simulated t2009 0).cmd ≠ 0x15#8 := by
  decide

theorem witness_CmdOtherSelectsTheEcho : (0x14#8 : Byte) ≠ 0x15#8 ∧ (0x95#8 : Byte) ≠ 0x15#8 := by decide

theorem witness_CommandAndDataRoundTripInIdle : (0x00#8 : Byte) ≠ 0x15#8 ∧ (0xFF#8 : Byte) ≠ 0x15#8 := by decide

/-- A data write, an INIT, the byte 0x15 and another command byte: one next state for each case. -/
theorem witness_OnlyCommandBytesAndInitChangeTheFsmState :
    exec (.wrData 1#8) (strm 4 t2009) = .next { strm 4 t2009 with data := 1#8 } ∧
    exec (.init 0 false) (strm 4 t2009) = .next (launch 0 false (strm 4 t2009)) ∧
    exec .cmdStream (strm 4 t2009) = .next { strm 4 t2009 with cursor := 0 } ∧
    exec (.wrCmd 0x14#8) (strm 4 t2009) = .next { strm 4 t2009 with cmd := 0x14#8 } :=
  ⟨rfl, rfl, rfl, rfl⟩

/-- A data write, a 0x15 command byte and the streaming read at cursors 0 and 6. -/
theorem witness_CursorHasNoOtherWriters :
    exec (.wrData 1#8) (strm 4 t2009) = .next { strm 4 t2009 with data := 1#8 } ∧ isInit (.wrData 1#8) = false ∧
    exec (.wrCmd 0x15#8) (strm 4 t2009) = .next { strm 4 t2009 with cursor := 0 } ∧ isInit (.wrCmd 0x15#8) = false ∧
    exec .rdData (strm 0 t2009) = .next { strm 0 t2009 with cursor := 1, returned := [0x09#8] } ∧
    exec .fieldSec (strm 6 t2009) = .next { strm 6 t2009 with cursor := 0, returned := [0x30#8] } ∧
    isInit .rdData = false ∧ isInit .fieldSec = false := by
  refine ⟨?_, ?_, ?_, ?_, ?_, ?_, ?_, ?_⟩ <;> first | decide | rfl

theorem witness_PortOperationsNeverMoveTheClock :
    (∀ i ∈ [Instr.wrData 1#8, .rdCmd], isPortOp i = true) ∧
    execAll [.wrData 1#8, .rdCmd] (strm 4 t2009) = .next { strm 4 t2009 with data := 1#8, returned := [0x95#8] } := by
  refine ⟨?_, ?_⟩ <;> first | decide | rfl

theorem witness_EveryOperationButAdvanceAlwaysCompletes : ∀ n, Instr.rdData ≠ .advance n := by simp

theorem witness_BcdShowsTheTwoDecimalDigits : (0 : Nat) ≤ 99 ∧ (99 : Nat) ≤ 99 ∧ (98 : Nat) < 99 := by decide

/-- One state for each clause. -/
theorem witness_NowIsTimeOrAFreshHostAnswer :
    (strm 0 t2009).mode = .simulated ∧
    (host [t2009] (st 0 0 0 .realtime 0 0)).mode = .realtime ∧
    (host [t2009] (st 0 0 0 .realtime 0 0)).hostAnswers = t2009 :: [] ∧
    (st 0 0 0 .realtime 0 0).mode = .realtime ∧ (st 0 0 0 .realtime 0 0).hostAnswers = [] := by decide

/-- Both ends of the window, and the seconds just outside it. -/
theorem witness_FieldYearReturnsTheYearSince2000 :
    (strm 0 t2009).cmd = 0x15#8 ∧ (strm 0 t2009).cursor = 0 ∧
    0 ≤ (civil (strm 0 946684800#64).now.toInt).year - 100 ∧ (civil (strm 0 946684800#64).now.toInt).year - 100 ≤ 99 ∧
    0 ≤ (civil (strm 0 4102444799#64).now.toInt).year - 100 ∧ (civil (strm 0 4102444799#64).now.toInt).year - 100 ≤ 99 ∧
    (civil (strm 0 946684799#64).now.toInt).year - 100 < 0 ∧ 99 < (civil (strm 0 4102444800#64).now.toInt).year - 100 := by
  decide

theorem witness_FieldMonthReturnsTheZeroBasedMonth : (strm 1 t2009).cmd = 0x15#8 ∧ (strm 1 t2009).cursor = 1 := by
  decide
theorem witness_FieldDayReturnsTheDayOfTheMonth : (strm 2 t2009).cmd = 0x15#8 ∧ (strm 2 t2009).cursor = 2 := by decide
theorem witness_FieldWdayReturnsTheWeekday : (strm 3 t2009).cmd = 0x15#8 ∧ (strm 3 t2009).cursor = 3 := by decide
theorem witness_FieldHourReturnsTheHour : (strm 4 t2009).cmd = 0x15#8 ∧ (strm 4 t2009).cursor = 4 := by decide
theorem witness_FieldMinReturnsTheMinute : (strm 5 t2009).cmd = 0x15#8 ∧ (strm 5 t2009).cursor = 5 := by decide
theorem witness_FieldSecReturnsTheSecondAndWraps : (strm 6 t2009).cmd = 0x15#8 ∧ (strm 6 t2009).cursor = 6 := by decide

/-- Both cursor clauses at their ends. -/
theorem witness_StreamingReadMovesTheCursorOneOn :
    (strm 6 t2009).cmd = 0x15#8 ∧ (strm 6 t2009).cursor.val = 6 ∧ (strm 5 t2009).cursor.val < 6 ∧ (strm 0 t2009).cursor.val < 6 := by decide

/-- A real-time streaming read, a real-time INIT and a data write. -/
theorem witness_HostClockIsAskedExactlyWhereTheSpecSays :
    exec .rdData (host [t2009] (st 0x15#8 0 0 .realtime 0 0)) =
      .next { st 0x15#8 0 1 .realtime 0 0 with hostQueries := 1, returned := [0x09#8] } ∧
    exec (.init 0 true) (strm 4 t2009) = .next (launch 0 true (strm 4 t2009)) ∧
    exec (.wrData 1#8) (strm 4 t2009) = .next { strm 4 t2009 with data := 1#8 } := by
  refine ⟨?_, ?_, ?_⟩ <;> first | decide | rfl

/-- CURSOR 0 at the first second of the window, CURSOR 6 reaching its last second, and CURSOR 5 outside it. -/
theorem witness_AStreamingReadShowsTheTimeAtThatRead :
    (strm 0 946684800#64).cmd = 0x15#8 ∧ (strm 0 946684800#64).mode = .simulated ∧ (strm 0 946684800#64).acc < 3072000 ∧
    (strm 0 946684800#64).time.toInt + (0 : Nat) ≤ 9223372036854775807 ∧
    ((strm 0 946684800#64).cursor = 0 → InWindow (strm 0 946684800#64).time.toInt) ∧
    ((strm 6 4102444798#64).cursor = 6 → InWindow ((strm 6 4102444798#64).time.toInt + (1 : Nat))) ∧
    ((strm 5 0#64).cursor = 0 → InWindow (strm 5 0#64).time.toInt) ∧
    ((strm 5 0#64).cursor = 6 → InWindow ((strm 5 0#64).time.toInt + (1 : Nat))) := by
  unfold InWindow; decide

/-- The instants of the window's two ends. -/
theorem witness_ReadsPastTheSeventhRestartAtTheYear :
    (strm 0 946684800#64).cmd = 0x15#8 ∧ (strm 0 946684800#64).cursor = 0 ∧ (strm 0 946684800#64).mode = .simulated ∧
    InWindow (strm 0 946684800#64).time.toInt ∧ InWindow (strm 0 4102444799#64).time.toInt := by
  unfold InWindow; decide

theorem witness_ACleanPassThroughThePorts :
    (strm 3 t2009).created = true ∧ (strm 3 t2009).mode = .simulated ∧ InWindow (strm 3 t2009).time.toInt ∧
    (pend (.one (.write Config.cmdPort 1 0x15) :: (List.replicate 7 (.one (.read Config.dataPort 1)) ++ []))
      (strm 3 t2009)).inbox =
      .one (.write Config.cmdPort 1 0x15) :: (List.replicate 7 (.one (.read Config.dataPort 1)) ++ []) :=
  ⟨rfl, rfl, by unfold InWindow; decide, rfl⟩

theorem witness_ARealtimePassSamplesTheHostClockSevenTimes :
    (host [t2009, 0, 1, 2, 3, 4, 5] (st 0 0 0 .realtime 0 0)).mode = .realtime ∧
    (host [t2009, 0, 1, 2, 3, 4, 5] (st 0 0 0 .realtime 0 0)).hostAnswers = [t2009, 0, 1, 2, 3, 4, 5] ++ [] ∧
    InWindow t2009.toInt := by
  unfold InWindow; decide

/-- The last second that may be reached: TIME at `2^63 - 2` and one carry. -/
theorem witness_AdvanceCarriesWholeSeconds :
    (st 0 0 0 .simulated 0x7FFFFFFFFFFFFFFE#64 3071999).mode = .simulated ∧
    (st 0 0 0 .simulated 0x7FFFFFFFFFFFFFFE#64 3071999).time.toInt +
      (((st 0 0 0 .simulated 0x7FFFFFFFFFFFFFFE#64 3071999).acc + 1) / 3072000 : Nat) ≤ 9223372036854775807 := by decide

/-- A real-time state, and a simulated one at the last second that may be reached. -/
theorem witness_AdvanceIsTheCarryLoopInSimulatedMode :
    (st 0 0 0 .realtime 0 0).mode = .realtime ∧
    (st 0 0 0 .simulated 0x7FFFFFFFFFFFFFFE#64 3071999).mode = .simulated ∧
    ((st 0 0 0 .simulated 0x7FFFFFFFFFFFFFFE#64 3071999).acc + 1) / 3072000 ≤ 1 ∧
    (carryLoop 1 ((st 0 0 0 .simulated 0x7FFFFFFFFFFFFFFE#64 3071999).acc + 1)
      (st 0 0 0 .simulated 0x7FFFFFFFFFFFFFFE#64 3071999).time.toInt).2 ≤ 9223372036854775807 := by decide

/-- Both sides of the equivalence hold one second later. -/
theorem witness_AdvanceIsRefusedExactlyAtTheEndOfTime :
    (st 0 0 0 .simulated 0x7FFFFFFFFFFFFFFF#64 3071999).mode = .simulated ∧
    9223372036854775807 < (st 0 0 0 .simulated 0x7FFFFFFFFFFFFFFF#64 3071999).time.toInt +
      (((st 0 0 0 .simulated 0x7FFFFFFFFFFFFFFF#64 3071999).acc + 1) / 3072000 : Nat) ∧
    exec (.advance 1) (st 0 0 0 .simulated 0x7FFFFFFFFFFFFFFF#64 3071999) = .refused .timeOverflow := by
  refine ⟨?_, ?_, ?_⟩ <;> first | decide | rfl

theorem witness_AdvanceZeroChangesNothing :
    (st 0 0 0 .simulated t2009 3071999).Inv ∧ (st 0 0 0 .realtime t2009 0).Inv := by
  unfold State.Inv; decide

theorem witness_AdvanceDoesNotDependOnTheSplit :
    (st 0 0 0 .simulated t2009 3071999).Inv ∧ (st 0 0 0 .realtime t2009 0).Inv := by
  unfold State.Inv; decide

theorem witness_AdvancingBySecondsKeepsTheRemainder :
    (st 0 0 0 .simulated 0x7FFFFFFFFFFFFFFD#64 3071999).mode = .simulated ∧
    (st 0 0 0 .simulated 0x7FFFFFFFFFFFFFFD#64 3071999).acc < 3072000 ∧
    (st 0 0 0 .simulated 0x7FFFFFFFFFFFFFFD#64 3071999).time.toInt + (2 : Nat) ≤ 9223372036854775807 := by decide

theorem witness_InterleavedPortAccessesDoNotDisturbTheClock :
    (strm 0 t2009).mode = .simulated ∧ (strm 0 t2009).acc < 3072000 ∧
    (∀ i ∈ [Instr.advance 3072000, .rdData, .advance 7], isInit i = false) ∧
    execAll [.advance 3072000, .rdData, .advance 7] (strm 0 t2009) =
      .next { strm 1 1234567891#64 with acc := 7, returned := [0x09#8] } := by
  refine ⟨?_, ?_, ?_, ?_⟩ <;> first | decide | exact eq_next_of_next? (by decide)

/-- The largest sum a 32-bit accumulator holds, 2.5's last row: 1398 seconds and 311295 cycles. -/
theorem witness_AFixedWidthAccumulatorIsExactWithoutOverflow :
    (st 0 0 0 .simulated 0 3071999).mode = .simulated ∧ AdvanceNoOverflow 32 (st 0 0 0 .simulated 0 3071999).acc 4291895296 ∧
    (st 0 0 0 .simulated 0 3071999).time.toInt + (((st 0 0 0 .simulated 0 3071999).acc + 4291895296) / 3072000 : Nat) ≤
      9223372036854775807 ∧
    (st 0 0 0 .simulated 0 3071999).acc < 3072000 ∧ (4291895296 : Nat) + 3072000 ≤ 2 ^ 32 ∧
    (4291895296 : Nat) ≤ 4291895296 ∧
    clock (exec (.advance 4291895296) (st 0 0 0 .simulated 0 3071999)) = some (.simulated, 1398#64, 311295) := by
  unfold AdvanceNoOverflow; decide

theorem witness_EveryStepKeepsTheAccumulatorInvariant :
    (pend [.one (.advance 1)] (st 0 0 0 .simulated t2009 3071999)).Inv ∧
    step (pend [.one (.advance 1)] (st 0 0 0 .simulated t2009 3071999)) = .next (st 0 0 0 .simulated 1234567891#64 0) := by
  unfold State.Inv
  refine ⟨?_, ?_⟩ <;> first | decide | rfl

theorem witness_ModeIsFixedBetweenInits :
    (∀ i ∈ [Instr.advance 3072000, .wrCmd 0x15#8], isInit i = false) ∧
    execAll [.advance 3072000, .wrCmd 0x15#8] (st 0 0 3 .realtime t2009 0) = .next (st 0x15#8 0 0 .realtime t2009 0) ∧
    (st 0 0 3 .realtime t2009 0).mode = .realtime := by
  refine ⟨?_, ?_, ?_⟩ <;> first | decide | exact eq_next_of_next? (by decide)

theorem witness_RealtimeModeNeverReadsTime :
    (st 0x15#8 0 0 .realtime t2009 0).mode = .realtime ∧
    (∀ i ∈ [Instr.rdData, .advance 3072000], isInit i = false) := by decide

/-- The premise, and both clauses: a step that goes on, and one that is refused. -/
theorem witness_CursorIsUnobservableInIdle :
    (st 0x14#8 0x42#8 3 .simulated t2009 0).cmd ≠ 0x15#8 ∧
    runSteps 1 (pend [.one (.coded ⟨0x2#4, []⟩)] (st 0x14#8 0x42#8 3 .simulated t2009 0)) =
      .next { st 0x14#8 0x42#8 3 .simulated t2009 0 with returned := [0xC2#8] } ∧
    runSteps 1 (pend [.one (.read 5 2)] (st 0x14#8 0x42#8 3 .simulated t2009 0)) = .refused .notOneByte := by
  refine ⟨?_, ?_, ?_⟩ <;> first | decide | rfl

end Sys2Proof.Tests
end

section
/-!
SUPPORT. What one step does with the oldest arrival (20_memory.md R50, R53), and the operation a port access stands for
(R43, R44, R46, R64).
-/

namespace Sys2Proof.Machine

/-! ### The step, by what the oldest arrival is -/

/-- R50, R150: the oldest call runs if the record exists or the call is INIT. -/
theorem step_runs_oldest {s : State} {c : Call} {rest : List Arrival} {i : Instr} (hin : s.inbox = .one c :: rest)
    (hi : c.instr = .ok i) (hc : s.created = true ∨ isInit i = true) :
    step s = exec i { s with inbox := rest } := by
  simp [step, fetch, hin, hi, hc]

/-- A call that stands for no operation is refused, created or not. -/
theorem step_refuses_oldest {s : State} {c : Call} {rest : List Arrival} {r : Refusal}
    (hin : s.inbox = .one c :: rest) (hr : c.instr = .error r) : step s = .refused r := by
  simp [step, fetch, hin, hr]

theorem step_refuses_together {s : State} {c d : Call} {rest : List Arrival}
    (hin : s.inbox = .together c d :: rest) : step s = .refused .simultaneous := by
  simp [step, fetch, hin]

/-! ### The operation a call stands for, by its word -/

theorem Call.instr_of_opWord {c : Call} {w : OpWord} {i : Instr} (hw : c.opWord = .ok w) (hi : decodeOp w = .ok i) :
    c.instr = .ok i := by
  simp [Call.instr, hw, hi]

theorem Call.instr_of_undecodable {c : Call} {w : OpWord} {e : DecodeError} (hw : c.opWord = .ok w)
    (he : decodeOp w = .error e) : c.instr = .error (.undecodable e) := by
  simp [Call.instr, hw, he]

theorem Call.instr_of_noWord {c : Call} {r : Refusal} (hr : c.opWord = .error r) : c.instr = .error r := by
  simp [Call.instr, hr]

/-! ### The operands of an operation word -/

@[simp] theorem natOperand_natCast (n : Nat) : natOperand n = .ok n := by simp [natOperand]

@[simp] theorem byteOperand_toNat (v : Byte) : byteOperand v.toNat = .ok v := by
  have hv : (v.toNat : Int) ≤ 255 := by have := v.isLt; omega
  simp [byteOperand, hv]

/-- D16: a value above 255 is no byte. -/
theorem byteOperand_of_gt {value : Nat} (h : 255 < value) : byteOperand value = .error .operandRange := by
  rw [byteOperand, if_neg (by omega)]

/-! ### The word of a one-byte access, by its address -/

theorem Call.opWord_write_cmdPort (value : Nat) :
    (Call.write Config.cmdPort 1 value).opWord = .ok ⟨0x5#4, [(value : Int)]⟩ := by
  simp [Call.opWord, portOpw, portOperands]

theorem Call.opWord_write_dataPort (value : Nat) :
    (Call.write Config.dataPort 1 value).opWord = .ok ⟨0x6#4, [(value : Int)]⟩ := by
  simp [Call.opWord, portOpw, portOperands]

theorem Call.opWord_write_other {addr : Nat} (hc : addr ≠ Config.cmdPort) (hd : addr ≠ Config.dataPort)
    (value : Nat) : (Call.write addr 1 value).opWord = .ok ⟨0x4#4, [(addr : Int), (value : Int)]⟩ := by
  simp [Call.opWord, portOpw, portOperands, sel_other hc hd]

theorem Call.opWord_read_cmdPort : (Call.read Config.cmdPort 1).opWord = .ok ⟨0x1#4, []⟩ := by
  simp [Call.opWord, portOpw, portOperands]

theorem Call.opWord_read_dataPort : (Call.read Config.dataPort 1).opWord = .ok ⟨0x2#4, []⟩ := by
  simp [Call.opWord, portOpw, portOperands]

theorem Call.opWord_read_other {addr : Nat} (hc : addr ≠ Config.cmdPort) (hd : addr ≠ Config.dataPort) :
    (Call.read addr 1).opWord = .ok ⟨0x0#4, [(addr : Int)]⟩ := by
  simp [Call.opWord, portOpw, portOperands, sel_other hc hd]

/-! ### What the decoder reads from a port access's word -/

theorem decodeOp_rdNone (a : Int) : decodeOp ⟨0x0#4, [a]⟩ = (natOperand a).map .rdNone := rfl

theorem decodeOp_rdCmd : decodeOp ⟨0x1#4, []⟩ = .ok .rdCmd := rfl

theorem decodeOp_rdData : decodeOp ⟨0x2#4, []⟩ = .ok .rdData := rfl

theorem decodeOp_wrNone (a x : Int) :
    decodeOp ⟨0x4#4, [a, x]⟩ = (natOperand a).bind fun n => (byteOperand x).map (.wrNone n) := rfl

theorem decodeOp_wrCmd (x : Int) : decodeOp ⟨0x5#4, [x]⟩ = (byteOperand x).map .wrCmd := rfl

theorem decodeOp_wrData (x : Int) : decodeOp ⟨0x6#4, [x]⟩ = (byteOperand x).map .wrData := rfl

/-! ### The operation a port access stands for -/

theorem Call.instr_write_cmdPort (v : Byte) : (Call.write Config.cmdPort 1 v.toNat).instr = .ok (.wrCmd v) :=
  Call.instr_of_opWord (Call.opWord_write_cmdPort _) (by rw [decodeOp_wrCmd, byteOperand_toNat]; rfl)

theorem Call.instr_write_dataPort (v : Byte) : (Call.write Config.dataPort 1 v.toNat).instr = .ok (.wrData v) :=
  Call.instr_of_opWord (Call.opWord_write_dataPort _) (by rw [decodeOp_wrData, byteOperand_toNat]; rfl)

theorem Call.instr_write_other {addr : Nat} (hc : addr ≠ Config.cmdPort) (hd : addr ≠ Config.dataPort) (v : Byte) :
    (Call.write addr 1 v.toNat).instr = .ok (.wrNone addr v) :=
  Call.instr_of_opWord (Call.opWord_write_other hc hd _)
    (by rw [decodeOp_wrNone, natOperand_natCast, byteOperand_toNat]; rfl)

theorem Call.instr_read_cmdPort : (Call.read Config.cmdPort 1).instr = .ok .rdCmd :=
  Call.instr_of_opWord Call.opWord_read_cmdPort decodeOp_rdCmd

theorem Call.instr_read_dataPort : (Call.read Config.dataPort 1).instr = .ok .rdData :=
  Call.instr_of_opWord Call.opWord_read_dataPort decodeOp_rdData

theorem Call.instr_read_other {addr : Nat} (hc : addr ≠ Config.cmdPort) (hd : addr ≠ Config.dataPort) :
    (Call.read addr 1).instr = .ok (.rdNone addr) :=
  Call.instr_of_opWord (Call.opWord_read_other hc hd) (by rw [decodeOp_rdNone, natOperand_natCast]; rfl)

/-- R46: a write that is not one byte wide stands for nothing. -/
theorem Call.instr_write_notOneByte {size : Nat} (h : size ≠ 1) (addr value : Nat) :
    (Call.write addr size value).instr = .error .notOneByte :=
  Call.instr_of_noWord (if_neg h)

/-- R46: a read that is not one byte wide stands for nothing. -/
theorem Call.instr_read_notOneByte {size : Nat} (h : size ≠ 1) (addr : Nat) :
    (Call.read addr size).instr = .error .notOneByte :=
  Call.instr_of_noWord (if_neg h)

/-- D16: the value is checked at each of the three classes of address. -/
theorem Call.instr_write_of_gt {value : Nat} (h : 255 < value) (addr : Nat) :
    (Call.write addr 1 value).instr = .error (.undecodable .operandRange) := by
  have hx := byteOperand_of_gt h
  by_cases hc : addr = Config.cmdPort
  · subst hc
    exact Call.instr_of_undecodable (Call.opWord_write_cmdPort _) (by rw [decodeOp_wrCmd, hx]; rfl)
  by_cases hd : addr = Config.dataPort
  · subst hd
    exact Call.instr_of_undecodable (Call.opWord_write_dataPort _) (by rw [decodeOp_wrData, hx]; rfl)
  · exact Call.instr_of_undecodable (Call.opWord_write_other hc hd _)
      (by rw [decodeOp_wrNone, natOperand_natCast, hx]; rfl)

/-- R44: a streaming read returns exactly one byte. -/
theorem streamField_returns_one (k : Cursor) (s : State) : ∃ b, (streamField k s).returned = s.returned ++ [b] := by
  obtain ⟨b, _, e⟩ := streamField_cases k s
  exact ⟨b, by rw [e]⟩

end Sys2Proof.Machine
end

section
/-!
The statements of the port space (20_memory.md): each is the operation its call stands for, run by one step.
-/

namespace Sys2Proof.PortSpace
open Sys2Proof.Machine

/-- Settles O3: the three classes of address are WR_CMD, WR_DATA and WR_NONE. -/
theorem portWriteDispatchesOnTheAddress : Obligations.PortWriteDispatchesOnTheAddress := by
  intro s rest addr v hcr hin
  refine ⟨?cmdPort, ?dataPort, ?other⟩
  case cmdPort =>
    rintro rfl
    rw [step_runs_oldest hin (Call.instr_write_cmdPort v) (.inl hcr), exec_wrCmd, writeCommand_eq]
  case dataPort =>
    rintro rfl
    rw [step_runs_oldest hin (Call.instr_write_dataPort v) (.inl hcr), exec_wrData]
    rfl
  case other =>
    intro hc hd
    rw [step_runs_oldest hin (Call.instr_write_other hc hd v) (.inl hcr), exec_wrNone]

/-- Settles O4: the dispatch clauses first; each then gives the one byte of its case. -/
theorem portReadDispatchesOnTheAddress : Obligations.PortReadDispatchesOnTheAddress := by
  intro s rest addr hcr hin
  have cmdPort : addr = Config.cmdPort →
      step s = .next { s with inbox := rest, returned := s.returned ++ [s.cmd ||| 0x80#8] } := by
    rintro rfl
    rw [step_runs_oldest hin Call.instr_read_cmdPort (.inl hcr), exec_rdCmd, withStatus_eq]
    rfl
  have dataPort (hd : addr = Config.dataPort) : step s = exec .rdData { s with inbox := rest } := by
    subst hd
    exact step_runs_oldest hin Call.instr_read_dataPort (.inl hcr)
  have echo (hd : addr = Config.dataPort) (hs : s.cmd ≠ 0x15#8) :
      step s = .next { s with inbox := rest, returned := s.returned ++ [s.data ||| 0x80#8] } := by
    rw [dataPort hd, exec_rdData_idle (s := { s with inbox := rest }) hs, echoData_eq]
  have stream (hd : addr = Config.dataPort) (hs : s.cmd = 0x15#8) :
      step s = exec .rdDataStream { s with inbox := rest } := by
    rw [dataPort hd, exec_rdData_streaming (s := { s with inbox := rest }) hs, exec_rdDataStream]
  have other (hc : addr ≠ Config.cmdPort) (hd : addr ≠ Config.dataPort) :
      step s = .next { s with inbox := rest, returned := s.returned ++ [0x00#8] } := by
    rw [step_runs_oldest hin (Call.instr_read_other hc hd) (.inl hcr), exec_rdNone]
    rfl
  refine ⟨cmdPort, echo, stream, other, ?oneByte⟩
  by_cases hc : addr = Config.cmdPort
  · exact ⟨_, _, cmdPort hc, rfl⟩
  by_cases hd : addr = Config.dataPort
  · by_cases hs : s.cmd = 0x15#8
    · obtain ⟨b, hb⟩ := streamField_returns_one s.cursor { s with inbox := rest }
      exact ⟨_, b, stream hd hs, hb⟩
    · exact ⟨_, _, echo hd hs, rfl⟩
  · exact ⟨_, _, other hc hd, rfl⟩

/-- Settles O5: the width is checked before the word is formed, the value when the word is decoded. -/
theorem accessesThatAreNotOneByteAreRefused : Obligations.AccessesThatAreNotOneByteAreRefused := by
  intro s rest addr size value
  refine ⟨?write, ?read, ?value⟩
  case write => exact fun h hin => step_refuses_oldest hin (Call.instr_write_notOneByte h addr value)
  case read => exact fun h hin => step_refuses_oldest hin (Call.instr_read_notOneByte h addr)
  case value =>
    rintro rfl h hin
    exact step_refuses_oldest hin (Call.instr_write_of_gt h addr)

/-- Settles O6, by the step's refusal of two calls at once. -/
theorem simultaneousOperationsAreRefused : Obligations.SimultaneousOperationsAreRefused :=
  fun _ _ _ _ => step_refuses_together

end Sys2Proof.PortSpace
end

section
/-!
SUPPORT. The status bit as a bound (40_register_interface.md R93, R95), CMD_STREAM as a command-port write (R98), and
sequences of one and of two operations.
-/

namespace Sys2Proof.Machine

/-- R28, R66: a byte with the status bit is never below 0x80. -/
theorem statusBit_le_or_statusBit (b : Byte) : 0x80#8 ≤ b ||| 0x80#8 := by
  rw [BitVec.le_def, BitVec.toNat_or]
  exact Nat.right_le_or

theorem exec_cmdStream_eq_exec_wrCmd (s : State) : exec .cmdStream s = exec (.wrCmd 0x15#8) s := rfl

theorem execAll_singleton (i : Instr) (s : State) : execAll [i] s = exec i s := by
  cases h : exec i s with
  | next t => rw [execAll_cons_next h, execAll_nil]
  | fault r => rw [execAll, h]
  | refused r => rw [execAll, h]

theorem execAll_pair_next {i : Instr} {s t : State} (h : exec i s = .next t) (j : Instr) :
    execAll [i, j] s = exec j t := by
  rw [execAll_cons_next h, execAll_singleton]

end Sys2Proof.Machine
end

section
/-!
The statements of the register interface (40_register_interface.md), one for each operation rule: the writes, the
reads, and the command code that starts the stream.
-/

namespace Sys2Proof.RegisterInterface
open Sys2Proof.Machine

/-! ### The writes -/

/-- Settles O14, by the equation of the command-port write. -/
theorem wrCmdStoresTheByteAndArmsTheStream : Obligations.WrCmdStoresTheByteAndArmsTheStream := by
  intro v s
  rw [exec_wrCmd, writeCommand_eq]

/-- Settles O15: the meaning is the one register write. -/
theorem wrDataStoresTheByte : Obligations.WrDataStoresTheByte :=
  fun v s => exec_wrData s v

/-- Settles O16: the meaning hands the state on. -/
theorem wrNoneChangesNothing : Obligations.WrNoneChangesNothing :=
  fun addr v s => exec_wrNone s addr v

/-! ### The reads -/

/-- Settles O17, in Idle and in Streaming by the one equation. -/
theorem rdCmdReturnsCmdWithTheStatusBit : Obligations.RdCmdReturnsCmdWithTheStatusBit := by
  intro s
  refine ⟨?read, statusBit_le_or_statusBit s.cmd⟩
  rw [exec_rdCmd, withStatus_eq]
  rfl

/-- Settles O18: in Idle both rows are the echo of DATA. -/
theorem rdDataEchoReturnsDataWithTheStatusBit : Obligations.RdDataEchoReturnsDataWithTheStatusBit := by
  intro s idle
  refine ⟨?echoRow, ?dataRead, statusBit_le_or_statusBit s.data⟩
  case echoRow => rw [exec_rdDataEcho, echoData_eq]
  case dataRead => rw [exec_rdData_idle idle, echoData_eq]

/-- Settles O19, by cases on the FSM state that the stored CMD gives. -/
theorem rdDataDispatchesOnCmd : Obligations.RdDataDispatchesOnCmd := by
  intro s
  by_cases streaming : s.cmd = 0x15#8
  · rw [if_pos streaming, exec_rdData_streaming streaming, exec_rdDataStream]
  · rw [if_neg streaming, exec_rdData_idle streaming, exec_rdDataEcho]

/-- Settles O20: the read answers the default byte, which carries no status bit. -/
theorem rdNoneReturnsZero : Obligations.RdNoneReturnsZero :=
  fun addr s => exec_rdNone s addr

/-! ### The command code that starts the stream -/

/-- Settles O22: both writes reach the armed state by O14; the reads after it go by O17 and O19. -/
theorem cmdStreamStartsStreaming : Obligations.CmdStreamStartsStreaming := by
  intro s
  have write : exec (.wrCmd 0x15#8) s = .next { s with cmd := 0x15#8, cursor := 0 } := by
    rw [wrCmdStoresTheByteAndArmsTheStream, if_pos rfl]
  have command : exec .cmdStream s = .next { s with cmd := 0x15#8, cursor := 0 } := by
    rw [exec_cmdStream_eq_exec_wrCmd, write]
  refine ⟨command, write, ?streaming, ?readCmd, ?readData⟩
  case streaming => rw [State.fsm_eq_streaming]
  case readCmd =>
    have statusOfStream : (0x15#8 : Byte) ||| 0x80#8 = 0x95#8 := by decide
    rw [execAll_pair_next command, (rdCmdReturnsCmdWithTheStatusBit _).1, statusOfStream]
  case readData => rw [execAll_pair_next command, rdDataDispatchesOnCmd, if_pos rfl]

end Sys2Proof.RegisterInterface
end

section
/-!
SUPPORT. The ranges of the calendar fields of any instant (41_time_streamer.md R112, R113). The month is bounded from the
day of the 400-year era down: the day of the March year, the month counted from March, and the month from January.
-/

namespace Sys2Proof.Machine

/-! ### The steps of the date conversion -/

theorem dayOfEra_range (days : Int) : 0 ≤ dayOfEra days ∧ dayOfEra days ≤ 146096 := by
  unfold dayOfEra fmod
  omega

/-- On every day of an era but its last, a leap day, the year lies in the century that the day count gives. -/
theorem yearOfEra_century {doe : Int} (lo : 0 ≤ doe) (hi : doe < 146096) : yearOfEra doe / 100 = doe / 36524 := by
  unfold yearOfEra
  omega

/-- On those days the leap days that R112 takes out are no fewer than the years divisible by 4. -/
theorem yearOfEra_div_four_le {doe : Int} (lo : 0 ≤ doe) (hi : doe < 146096) : yearOfEra doe / 4 ≤ doe / 1460 := by
  unfold yearOfEra
  omega

/-- R112: the day of the March year, which starts no later than the day itself because of the two facts above. -/
theorem dayOfYear_range {doe : Int} (lo : 0 ≤ doe) (hi : doe ≤ 146096) : 0 ≤ dayOfYear doe ∧ dayOfYear doe ≤ 365 := by
  rcases hi.eq_or_lt with rfl | hi
  · decide
  · have year : yearOfEra doe = (doe - doe / 1460 + doe / 36524 - doe / 146096) / 365 := rfl
    have century := yearOfEra_century lo hi
    have leap := yearOfEra_div_four_le lo hi
    unfold dayOfYear
    omega

theorem marchMonth_range {doy : Int} (lo : 0 ≤ doy) (hi : doy ≤ 365) : 0 ≤ marchMonth doy ∧ marchMonth doy ≤ 11 := by
  unfold marchMonth
  omega

theorem monthOfYear_range {doy : Int} (lo : 0 ≤ doy) (hi : doy ≤ 365) : 1 ≤ monthOfYear doy ∧ monthOfYear doy ≤ 12 := by
  obtain ⟨marchLo, marchHi⟩ := marchMonth_range lo hi
  unfold monthOfYear
  split <;> omega

theorem monthDay_range (doy : Int) : 1 ≤ monthDay doy ∧ monthDay doy ≤ 31 := by
  unfold monthDay marchMonth
  omega

theorem secondOfDay_range (t : Int) : 0 ≤ secondOfDay t ∧ secondOfDay t ≤ 86399 := by
  unfold secondOfDay fmod
  omega

/-! ### The fields -/

section
variable (t : Int)

theorem civil_month : (civil t).month = monthOfYear (dayOfYear (dayOfEra (epochDays t))) - 1 := rfl
theorem civil_mday : (civil t).mday = monthDay (dayOfYear (dayOfEra (epochDays t))) := rfl
theorem civil_hour : (civil t).hour = secondOfDay t / 3600 := rfl
theorem civil_minute : (civil t).minute = secondOfDay t % 3600 / 60 := rfl
theorem civil_second : (civil t).second = secondOfDay t % 60 := rfl

theorem civil_month_range : 0 ≤ (civil t).month ∧ (civil t).month ≤ 11 := by
  obtain ⟨eraLo, eraHi⟩ := dayOfEra_range (epochDays t)
  obtain ⟨yearLo, yearHi⟩ := dayOfYear_range eraLo eraHi
  have month := monthOfYear_range yearLo yearHi
  rw [civil_month]
  omega

theorem civil_mday_range : 1 ≤ (civil t).mday ∧ (civil t).mday ≤ 31 := by
  rw [civil_mday]
  exact monthDay_range _

theorem civil_hour_range : 0 ≤ (civil t).hour ∧ (civil t).hour ≤ 23 := by
  have day := secondOfDay_range t
  rw [civil_hour]
  omega

theorem civil_minute_range : 0 ≤ (civil t).minute ∧ (civil t).minute ≤ 59 := by
  rw [civil_minute]
  omega

theorem civil_second_range : 0 ≤ (civil t).second ∧ (civil t).second ≤ 59 := by
  rw [civil_second]
  omega
end

end Sys2Proof.Machine
end

section
/-!
SUPPORT. The field emitters as one family over the cursor (30_encoding.md R69, 41_time_streamer.md R117): what the one at a
cursor position does, inside 0..99 and outside it, and that it is the data-port read of Streaming.
-/

namespace Sys2Proof.Machine

theorem exec_fieldAt (k : Cursor) (s : State) : exec (fieldAt k) s = .next (streamField k s) := by
  fin_cases k <;> rfl

/-- R69, R94: in Streaming a data-port read is the emitter that CURSOR names. -/
theorem exec_rdData_eq_fieldAt {s : State} {k : Cursor} (streaming : s.cmd = 0x15#8) (position : s.cursor = k) :
    exec .rdData s = exec (fieldAt k) s := by
  rw [exec_rdData_streaming streaming, position, exec_fieldAt]

/-- R117 where the field has two digits: the whole next state. -/
theorem exec_fieldAt_inRange (k : Cursor) {s : State} (lo : 0 ≤ (civil s.now.toInt).field k)
    (hi : (civil s.now.toInt).field k ≤ 99) :
    exec (fieldAt k) s = .next { s.afterNow with
      cursor := nextCursor k, returned := s.returned ++ [bcd ((civil s.now.toInt).field k).toNat] } := by
  rw [exec_fieldAt, streamField, State.nowCivil, emit_inRange lo hi, State.afterNow_returned]

/-- R115 where it has not: the byte is the free one of the next draw. -/
theorem exec_fieldAt_outOfRange (k : Cursor) {s : State}
    (out : ¬(0 ≤ (civil s.now.toInt).field k ∧ (civil s.now.toInt).field k ≤ 99)) :
    exec (fieldAt k) s = .next { s.afterNow with
      cursor := nextCursor k, draws := s.draws + 1, returned := s.returned ++ [Config.drawYear s.draws] } := by
  rw [exec_fieldAt, streamField, State.nowCivil, emit_outOfRange out, State.afterNow_returned, State.afterNow_draws]

theorem nextCursor_val_of_eq_six {c : Cursor} (last : c.val = 6) : (nextCursor c).val = 0 := by
  revert c
  decide

theorem nextCursor_val_of_lt_six {c : Cursor} (inside : c.val < 6) : (nextCursor c).val = c.val + 1 := by
  revert c
  decide

end Sys2Proof.Machine
end

section
/-!
The statements of the streaming read and of its field emitters (41_time_streamer.md R117, R125 to R128, R130 to R132):
each field's range, where it has one, puts the emitter in the two-digit case of the family.
-/

namespace Sys2Proof.Streamer
open Sys2Proof.Machine

/-! ### The emitters whose field always has two digits -/

/-- Settles O34: the month is in 0..11. -/
theorem fieldMonthReturnsTheZeroBasedMonth : Obligations.FieldMonthReturnsTheZeroBasedMonth := by
  intro s streaming position
  obtain ⟨lo, hi⟩ := civil_month_range s.now.toInt
  exact ⟨exec_fieldAt_inRange 1 lo (hi.trans (by decide)), exec_rdData_eq_fieldAt streaming position, lo, hi⟩

/-- Settles O35: the day of the month is in 1..31. -/
theorem fieldDayReturnsTheDayOfTheMonth : Obligations.FieldDayReturnsTheDayOfTheMonth := by
  intro s streaming position
  obtain ⟨lo, hi⟩ := civil_mday_range s.now.toInt
  exact ⟨exec_fieldAt_inRange 2 (le_trans (by decide) lo) (hi.trans (by decide)),
    exec_rdData_eq_fieldAt streaming position, lo, hi⟩

/-- Settles O37: the hour is in 0..23. -/
theorem fieldHourReturnsTheHour : Obligations.FieldHourReturnsTheHour := by
  intro s streaming position
  obtain ⟨lo, hi⟩ := civil_hour_range s.now.toInt
  exact ⟨exec_fieldAt_inRange 4 lo (hi.trans (by decide)), exec_rdData_eq_fieldAt streaming position, lo, hi⟩

/-- Settles O38: the minute is in 0..59. -/
theorem fieldMinReturnsTheMinute : Obligations.FieldMinReturnsTheMinute := by
  intro s streaming position
  obtain ⟨lo, hi⟩ := civil_minute_range s.now.toInt
  exact ⟨exec_fieldAt_inRange 5 lo (hi.trans (by decide)), exec_rdData_eq_fieldAt streaming position, lo, hi⟩

/-- Settles O39: the second is in 0..59, the cursor wraps, and CMD, on which the FSM state depends, is kept. -/
theorem fieldSecReturnsTheSecondAndWraps : Obligations.FieldSecReturnsTheSecondAndWraps := by
  intro s streaming position
  obtain ⟨lo, hi⟩ := civil_second_range s.now.toInt
  refine ⟨exec_fieldAt_inRange 6 lo (hi.trans (by decide)), exec_rdData_eq_fieldAt streaming position, ?fsm, lo, hi⟩
  rw [State.fsm_eq_streaming, State.afterNow_cmd, streaming]

/-! ### The year, and every streaming read -/

/-- Settles O33, by the two cases of the year field. -/
theorem fieldYearReturnsTheYearSince2000 : Obligations.FieldYearReturnsTheYearSince2000 := by
  intro s streaming position
  refine ⟨?twoDigits, ?free, exec_rdData_eq_fieldAt streaming position⟩
  case twoDigits => exact fun lo hi => exec_fieldAt_inRange 0 lo hi
  case free =>
    intro outside
    have out : ¬(0 ≤ (civil s.now.toInt).year - 100 ∧ (civil s.now.toInt).year - 100 ≤ 99) := by omega
    exact ⟨_, exec_fieldAt_outOfRange 0 out⟩

/-- Settles O40, from what every streaming read does whatever byte it returns. -/
theorem streamingReadMovesTheCursorOneOn : Obligations.StreamingReadMovesTheCursorOneOn := by
  intro s streaming
  obtain ⟨b, returned⟩ := streamField_returns_one s.cursor s
  refine ⟨streamField s.cursor s, b, exec_rdDataStream s, exec_rdData_streaming streaming, ?wrap, ?advance, returned,
    streamField_cmd _ s, streamField_data _ s, streamField_mode _ s, streamField_time _ s, streamField_acc _ s⟩
  case wrap =>
    rw [streamField_cursor]
    exact nextCursor_val_of_eq_six
  case advance =>
    rw [streamField_cursor]
    exact nextCursor_val_of_lt_six

end Sys2Proof.Streamer
end

section
/-!
SUPPORT. What decides whether the oldest call runs before the first INIT (42_clock_accumulator.md R150), where ADVANCE
stops (R148), what it does elsewhere (R143), and that the carry loop run to its end is quotient and remainder (R141,
R143).
-/

namespace Sys2Proof.Machine

/-! ### Before the first INIT -/

/-- R150: without the record, no call but INIT runs. -/
theorem step_refuses_beforeInit {s : State} {c : Call} {rest : List Arrival} {i : Instr} (absent : s.created = false)
    (hin : s.inbox = .one c :: rest) (hi : c.instr = .ok i) (other : isInit i = false) :
    step s = .refused .beforeInit := by
  simp [step, fetch, hin, hi, absent, other]

theorem eq_init_of_isInit {i : Instr} (h : isInit i = true) : ∃ t rt, i = .init t rt := by
  cases i with
  | init t rt => exact ⟨t, rt, rfl⟩
  | _ => cases h

/-- R140, R150: every INIT creates the record. -/
@[simp] theorem launch_created (t : Seconds) (rt : Bool) (s : State) : (launch t rt s).created = true := rfl

@[simp] theorem launch_inbox (t : Seconds) (rt : Bool) (s : State) : (launch t rt s).inbox = s.inbox := by
  cases rt <;> rfl

/-! ### Where ADVANCE stops and what it does elsewhere -/

theorem toInt_le_maxSeconds (t : Seconds) : t.toInt ≤ 9223372036854775807 := by
  have := t.toInt_lt
  omega

/-- R148: a call that carries nothing cannot pass the end of time, since TIME itself is no later. -/
theorem timeOverflows_iff (n : Nat) (s : State) :
    timeOverflows n s = true ↔
      s.mode = .simulated ∧ 9223372036854775807 < s.time.toInt + ((s.acc + n) / 3072000 : Nat) := by
  have bound := toInt_le_maxSeconds s.time
  have carried : 9223372036854775807 < s.time.toInt + ((s.acc + n) / 3072000 : Nat) → 0 < (s.acc + n) / 3072000 := by
    omega
  simp only [timeOverflows, Bool.and_eq_true, decide_eq_true_eq]
  exact ⟨fun ⟨_, simulated, late⟩ => ⟨simulated, late⟩, fun ⟨simulated, late⟩ => ⟨carried late, simulated, late⟩⟩

theorem exec_advance_refused_iff (n : Nat) (s : State) :
    exec (.advance n) s = .refused .timeOverflow ↔ timeOverflows n s = true := by
  rw [exec_advance]
  split <;> simp_all

/-- R141: ADVANCE in real-time mode. -/
theorem exec_advance_realtime {s : State} (realtime : s.mode = .realtime) (n : Nat) :
    exec (.advance n) s = .next s := by
  have inTime : ¬timeOverflows n s = true := by simp [timeOverflows_iff, realtime]
  rw [exec_advance, if_neg inTime, advanceClock_realtime realtime]

/-- R143: ADVANCE in simulated mode, up to the end of time: the whole next state. -/
theorem exec_advance_simulated {n : Nat} {s : State} (simulated : s.mode = .simulated)
    (inTime : s.time.toInt + ((s.acc + n) / 3072000 : Nat) ≤ 9223372036854775807) :
    exec (.advance n) s = .next { s with
      time := BitVec.ofInt 64 (s.time.toInt + ((s.acc + n) / 3072000 : Nat)), acc := (s.acc + n) % 3072000 } := by
  have completes : ¬timeOverflows n s = true := by
    rw [timeOverflows_iff]
    exact fun ⟨_, late⟩ => absurd inTime late.not_ge
  rw [exec_advance, if_neg completes, advanceClock_simulated simulated]
  rfl

/-- R148: TIME with seconds added is exact up to the end of time. -/
theorem toInt_ofInt_add_seconds {t : Seconds} {k : Nat} (inTime : t.toInt + k ≤ 9223372036854775807) :
    (BitVec.ofInt 64 (t.toInt + k)).toInt = t.toInt + k := by
  have lo := t.le_toInt
  rw [BitVec.toInt_ofInt, Int.bmod_eq_of_le (by omega) (by omega)]

/-! ### The carry loop -/

theorem carryLoop_succ_of_ge {acc : Nat} (full : 3072000 ≤ acc) (k : Nat) (time : Int) :
    carryLoop (k + 1) acc time = carryLoop k (acc - 3072000) (time + 1) :=
  if_pos full

theorem carryLoop_of_lt {acc : Nat} (small : acc < 3072000) (fuel : Nat) (time : Int) :
    carryLoop fuel acc time = (acc, time) := by
  cases fuel with
  | zero => rfl
  | succ k => exact if_neg (show ¬3072000 ≤ acc from small.not_ge)

/-- R143 "by induction on the loop": each round takes one from the quotient and leaves the remainder. -/
theorem carryLoop_eq {fuel acc : Nat} (enough : acc / 3072000 ≤ fuel) (time : Int) :
    carryLoop fuel acc time = (acc % 3072000, time + (acc / 3072000 : Nat)) := by
  induction fuel generalizing acc time with
  | zero =>
    have small : acc < 3072000 := by omega
    simp [carryLoop_of_lt small, Nat.mod_eq_of_lt small, Nat.div_eq_of_lt small]
  | succ k ih =>
    rcases Nat.lt_or_ge acc 3072000 with small | full
    · simp [carryLoop_of_lt small, Nat.mod_eq_of_lt small, Nat.div_eq_of_lt small]
    · have rest : (acc - 3072000) / 3072000 ≤ k := by omega
      have seconds : time + 1 + ((acc - 3072000) / 3072000 : Nat) = time + (acc / 3072000 : Nat) := by omega
      rw [carryLoop_succ_of_ge full, ih rest, seconds, Nat.mod_eq_sub_mod full]

end Sys2Proof.Machine
end

section
/-!
The statements of the clock accumulator (42_clock_accumulator.md R140, R141, R147, R148, R150).
-/

namespace Sys2Proof.ClockAccumulator
open Sys2Proof.Machine

/-! ### INIT -/

/-- Settles O46, by the equation of INIT in each mode, whose draws are the unspecified values. -/
theorem initSetsModeTimeAndAcc : Obligations.InitSetsModeTimeAndAcc := by
  intro t s
  refine ⟨⟨Config.drawCmd s.draws, Config.drawData s.draws, Config.drawCursor s.draws, ?simulated⟩,
    ⟨Config.drawCmd s.draws, Config.drawData s.draws, Config.drawCursor s.draws, ?realtime⟩⟩
  case simulated => rw [exec_init, launch_simulated]
  case realtime => rw [exec_init, launch_realtime]

/-- Settles O7: the check of the record stands before the operation, and INIT passes it. -/
theorem onlyInitRunsBeforeTheFirstInit : Obligations.OnlyInitRunsBeforeTheFirstInit := by
  intro s rest c i absent hin hi
  refine ⟨step_refuses_beforeInit absent hin hi, ?init⟩
  intro init
  obtain ⟨t, rt, rfl⟩ := eq_init_of_isInit init
  refine ⟨launch t rt { s with inbox := rest }, ?runs, launch_created _ _ _, launch_inbox _ _ _⟩
  rw [step_runs_oldest hin hi (.inr init), exec_init]

/-! ### ADVANCE -/

/-- Settles O49: the loop run to its end is the closed form that ADVANCE is defined by. -/
theorem advanceIsTheCarryLoopInSimulatedMode : Obligations.AdvanceIsTheCarryLoopInSimulatedMode := by
  intro n s
  refine ⟨fun realtime => exec_advance_realtime realtime n, ?simulated⟩
  intro fuel simulated enough inTime
  rw [carryLoop_eq enough] at inTime ⊢
  exact ⟨exec_advance_simulated simulated inTime, Nat.mod_lt _ (by decide)⟩

/-- Settles O50: ADVANCE stops on its overflow test alone. -/
theorem advanceIsRefusedExactlyAtTheEndOfTime : Obligations.AdvanceIsRefusedExactlyAtTheEndOfTime :=
  fun n s => (exec_advance_refused_iff n s).trans (timeOverflows_iff n s)

/-- Settles O55: a sum that does not wrap is the sum, and both bounds on the count keep it below the width. -/
theorem aFixedWidthAccumulatorIsExactWithoutOverflow : Obligations.AFixedWidthAccumulatorIsExactWithoutOverflow := by
  intro width n s
  unfold AdvanceNoOverflow
  refine ⟨?exact, ?anyWidth, ?width32⟩
  case exact =>
    intro simulated fits inTime
    rw [wrappedSum_eq fits]
    exact ⟨_, exec_advance_simulated simulated inTime, toInt_ofInt_add_seconds inTime⟩
  case anyWidth =>
    intro remainder bound
    omega
  case width32 =>
    intro remainder bound
    omega

end Sys2Proof.ClockAccumulator
end

section
/-!
SUPPORT. The operands of an operation word and the words the decoder reads (30_encoding.md R61, R63, R65, R69): each
operand check accepts exactly the numbers of its type, and each word comes from one operation. And the step with nothing
pending (00_scope.md R17).
-/

namespace Sys2Proof.Machine

/-- R17: with nothing pending there is nothing to run. -/
theorem step_of_inbox_nil {s : State} (nothing : s.inbox = []) : step s = .next s := by
  simp [step, fetch, nothing]

/-! ### The operands of a word, forth and back -/

@[simp] theorem secondsOperand_toInt (t : Seconds) : secondsOperand t.toInt = .ok t := by
  have lo := t.le_toInt
  have hi := t.toInt_lt
  have inRange : minSeconds ≤ t.toInt ∧ t.toInt ≤ maxSeconds := by
    unfold minSeconds maxSeconds
    omega
  rw [secondsOperand, if_pos inRange, BitVec.ofInt_toInt]

@[simp] theorem bitOperand_bitToInt (b : Bool) : bitOperand (bitToInt b) = .ok b := by cases b <;> rfl

theorem eq_of_natOperand {x : Int} {n : Nat} (h : natOperand x = .ok n) : (n : Int) = x := by
  unfold natOperand at h
  split at h
  · cases h
    omega
  · cases h

theorem eq_of_byteOperand {x : Int} {v : Byte} (h : byteOperand x = .ok v) : (v.toNat : Int) = x := by
  unfold byteOperand at h
  split at h
  · cases h
    rw [BitVec.toNat_ofNat]
    omega
  · cases h

theorem eq_of_secondsOperand {x : Int} {t : Seconds} (h : secondsOperand x = .ok t) : t.toInt = x := by
  unfold secondsOperand minSeconds maxSeconds at h
  split at h
  · cases h
    rw [BitVec.toInt_ofInt, Int.bmod_eq_of_le (by omega) (by omega)]
  · cases h

theorem eq_of_bitOperand {x : Int} {b : Bool} (h : bitOperand x = .ok b) : bitToInt b = x := by
  unfold bitOperand at h
  split at h
  · cases h
    simp_all [bitToInt]
  · split at h
    · cases h
      simp_all [bitToInt]
    · cases h

/-! ### What an accepted operand list hands on -/

theorem map_eq_ok {α β : Type} {x : Except DecodeError α} {f : α → β} {b : β} (h : x.map f = .ok b) :
    ∃ a, x = .ok a ∧ b = f a := by
  cases x with
  | error e => cases h
  | ok a => exact ⟨a, rfl, by cases h; rfl⟩

theorem bind_eq_ok {α β : Type} {x : Except DecodeError α} {f : α → Except DecodeError β} {b : β}
    (h : x.bind f = .ok b) : ∃ a, x = .ok a ∧ f a = .ok b := by
  cases x with
  | error e => cases h
  | ok a => exact ⟨a, rfl, h⟩

/-! ### The lifecycle words and the unassigned ones -/

/-- R63: the selectors from 0xA on are not assigned. -/
theorem decodeOp_of_ge {w : OpWord} (high : 10 ≤ w.opw.toNat) : decodeOp w = .error .unassigned := by
  unfold decodeOp
  split
  case h_11 => rfl
  all_goals omega

theorem decodeOp_init (x y : Int) :
    decodeOp ⟨0x8#4, [x, y]⟩ = (secondsOperand x).bind fun t => (bitOperand y).map (.init t) := rfl

theorem decodeOp_advance (x : Int) : decodeOp ⟨0x9#4, [x]⟩ = (natOperand x).map .advance := rfl

theorem Call.instr_init (t : Seconds) (rt : Bool) : (Call.init t rt).instr = .ok (.init t rt) :=
  Call.instr_of_opWord rfl (by rw [decodeOp_init, secondsOperand_toInt, bitOperand_bitToInt]; rfl)

theorem Call.instr_advance (n : Nat) : (Call.advance n).instr = .ok (.advance n) :=
  Call.instr_of_opWord rfl (by rw [decodeOp_advance, natOperand_natCast]; rfl)

/-! ### One word for each operation -/

/-- R63: the word of each selector, with the operands that its checks accept. -/
theorem encode_of_decodeOp {w : OpWord} {i : Instr} (h : decodeOp w = .ok i) : encode i = .op w := by
  obtain ⟨opw, operands⟩ := w
  have word {k : BitVec 4} (e : opw.toNat = k.toNat) : opw = k := BitVec.eq_of_toNat_eq e
  unfold decodeOp at h
  split at h
  case h_1 e =>
    obtain rfl := word (k := 0x0#4) e
    split at h
    case h_1 addr list =>
      obtain rfl : operands = [addr] := list
      obtain ⟨a, ha, rfl⟩ := map_eq_ok h
      rw [encode, eq_of_natOperand ha]
    case h_2 => cases h
  case h_2 e =>
    obtain rfl := word (k := 0x1#4) e
    split at h
    case h_1 list =>
      obtain rfl : operands = [] := list
      cases h
      rfl
    case h_2 => cases h
  case h_3 e =>
    obtain rfl := word (k := 0x2#4) e
    split at h
    case h_1 list =>
      obtain rfl : operands = [] := list
      cases h
      rfl
    case h_2 => cases h
  case h_5 e =>
    obtain rfl := word (k := 0x4#4) e
    split at h
    case h_1 addr value list =>
      obtain rfl : operands = [addr, value] := list
      obtain ⟨a, ha, rest⟩ := bind_eq_ok h
      obtain ⟨v, hv, rfl⟩ := map_eq_ok rest
      rw [encode, eq_of_natOperand ha, eq_of_byteOperand hv]
    case h_2 => cases h
  case h_6 e =>
    obtain rfl := word (k := 0x5#4) e
    split at h
    case h_1 value list =>
      obtain rfl : operands = [value] := list
      obtain ⟨v, hv, rfl⟩ := map_eq_ok h
      rw [encode, eq_of_byteOperand hv]
    case h_2 => cases h
  case h_7 e =>
    obtain rfl := word (k := 0x6#4) e
    split at h
    case h_1 value list =>
      obtain rfl : operands = [value] := list
      obtain ⟨v, hv, rfl⟩ := map_eq_ok h
      rw [encode, eq_of_byteOperand hv]
    case h_2 => cases h
  case h_9 e =>
    obtain rfl := word (k := 0x8#4) e
    split at h
    case h_1 seconds bit list =>
      obtain rfl : operands = [seconds, bit] := list
      obtain ⟨t, ht, rest⟩ := bind_eq_ok h
      obtain ⟨rt, hrt, rfl⟩ := map_eq_ok rest
      rw [encode, eq_of_secondsOperand ht, eq_of_bitOperand hrt]
    case h_2 => cases h
  case h_10 e =>
    obtain rfl := word (k := 0x9#4) e
    split at h
    case h_1 count list =>
      obtain rfl : operands = [count] := list
      obtain ⟨n, hn, rfl⟩ := map_eq_ok h
      rw [encode, eq_of_natOperand hn]
    case h_2 => cases h
  all_goals cases h

/-- R65: the byte 0x15 is CMD_STREAM's word and every other byte CMD_OTHER's. -/
theorem encode_decodeCommand (b : Byte) : encode (decodeCommand b) = .command b := by
  unfold decodeCommand
  split
  next stream => rw [stream]; rfl
  next => rfl

/-- R69: the selector of each field row. -/
theorem encode_of_decodeField {c : BitVec 3} {i : Instr} (h : decodeField c = .ok i) : encode i = .field c := by
  have selector {k : BitVec 3} (e : c.toNat = k.toNat) : k = c := (BitVec.eq_of_toNat_eq e).symm
  unfold decodeField at h
  split at h <;> cases h <;> exact congrArg TableWord.field (selector ‹_›)

/-- R62: the operation word never names a row that only state, the command byte or the cursor selects. -/
theorem decodedAccess_of_decodeOp {w : OpWord} {i : Instr} (h : decodeOp w = .ok i) : decodedAccess i = i := by
  have word := encode_of_decodeOp h
  cases i with
  | rdDataEcho => cases word; cases h
  | rdDataStream => cases word; cases h
  | _ => rfl

end Sys2Proof.Machine
end

section
/-!
The statements of the step and of the encoding (20_memory.md R50, 30_encoding.md).
-/

namespace Sys2Proof.Encoding
open Sys2Proof.Machine

/-! ### Decode and encode -/

/-- Settles O10, row by row: each operand passes its own check, and CMD_OTHER's byte is not 0x15. -/
theorem decodeUndoesEncode : Obligations.DecodeUndoesEncode := by
  intro i wf
  cases i with
  | rdNone addr => rw [encode, decode, decodeOp_rdNone, natOperand_natCast]; rfl
  | wrNone addr v => rw [encode, decode, decodeOp_wrNone, natOperand_natCast, byteOperand_toNat]; rfl
  | wrCmd v => rw [encode, decode, decodeOp_wrCmd, byteOperand_toNat]; rfl
  | wrData v => rw [encode, decode, decodeOp_wrData, byteOperand_toNat]; rfl
  | init t rt => rw [encode, decode, decodeOp_init, secondsOperand_toInt, bitOperand_bitToInt]; rfl
  | advance n => rw [encode, decode, decodeOp_advance, natOperand_natCast]; rfl
  | cmdOther v =>
    have other : v ≠ Config.streamCmd := by simpa [WellFormed] using wf
    rw [encode, decode, decodeCommand, if_neg other]
    rfl
  | _ => rfl

/-- Settles O11, by the three formats of the opcode table. -/
theorem everyOperationHasOneWord : Obligations.EveryOperationHasOneWord := by
  intro w i h
  cases w with
  | op w => exact encode_of_decodeOp h
  | command b =>
    cases h
    exact encode_decodeCommand b
  | field c => exact encode_of_decodeField h

/-- Settles O12: the three classes of address for each direction; INIT and ADVANCE carry their own operands. -/
theorem everyProperCallIsAWellFormedOperation : Obligations.EveryProperCallIsAWellFormedOperation := by
  intro addr v t rt n
  refine ⟨?write, ?read, Call.instr_init t rt, Call.instr_advance n⟩
  case write =>
    by_cases hc : addr = Config.cmdPort
    · exact hc ▸ ⟨_, Call.instr_write_cmdPort v, rfl, rfl, rfl⟩
    by_cases hd : addr = Config.dataPort
    · exact hd ▸ ⟨_, Call.instr_write_dataPort v, rfl, rfl, rfl⟩
    · exact ⟨_, Call.instr_write_other hc hd v, (isOtherAddress_iff addr).2 ⟨hc, hd⟩, rfl, rfl⟩
  case read =>
    by_cases hc : addr = Config.cmdPort
    · exact hc ▸ ⟨_, Call.instr_read_cmdPort, rfl, rfl, rfl⟩
    by_cases hd : addr = Config.dataPort
    · exact hd ▸ ⟨_, Call.instr_read_dataPort, rfl, rfl, rfl⟩
    · exact ⟨_, Call.instr_read_other hc hd, (isOtherAddress_iff addr).2 ⟨hc, hd⟩, rfl, rfl⟩

/-- Settles O8: 0x3 and 0x7 have arms of their own, and no arm but the last reaches 0xA. -/
theorem unassignedOperationWordsAreRejected : Obligations.UnassignedOperationWordsAreRejected := by
  intro opw operands
  refine ⟨?cannotOccur, ?unassigned⟩
  case cannotOccur => rintro (rfl | rfl) <;> rfl
  case unassigned => exact fun high => decodeOp_of_ge high

/-- Settles O9: every word but the last is the word of its operation, so O10 decodes it. -/
theorem theSpecsSampleWordsDecode : Obligations.TheSpecsSampleWordsDecode :=
  ⟨decodeUndoesEncode (.init 946684800#64 false) rfl, decodeUndoesEncode (.wrCmd 0x15#8) rfl,
    decodeUndoesEncode .rdData rfl, decodeUndoesEncode (.wrData 0x42#8) rfl, decodeUndoesEncode .rdCmd rfl,
    decodeUndoesEncode (.advance 3072000) rfl, decodeUndoesEncode .cmdStream rfl,
    decodeUndoesEncode (.cmdOther 0x95#8) rfl, decodeUndoesEncode .fieldSec rfl, rfl⟩

/-! ### The step -/

/-- Settles O1: a coded call's word is itself. -/
theorem stepRunsTheDecodedOperation : Obligations.StepRunsTheDecodedOperation :=
  ⟨fun _ _ _ _ => step_runs_oldest, fun _ _ => Call.instr_of_opWord rfl⟩

/-- Settles O2: there is nothing to take off. -/
theorem stepWithNothingPendingKeepsTheState : Obligations.StepWithNothingPendingKeepsTheState :=
  fun _ => step_of_inbox_nil

end Sys2Proof.Encoding
end

section
/-!
SUPPORT. What one operation does, by its kind (40_register_interface.md, 41_time_streamer.md): the case split that the
statements about every operation share, what each kind leaves unchanged, and the one induction over a sequence.
-/

namespace Sys2Proof.Machine

/-! ### The kinds of operation -/

/-- R62: what the operation `i` does at `s`, one case for each kind of row. -/
inductive Effect (i : Instr) (s : State) : Prop where
  /-- A read that is no streaming read (R93, R95, R96). -/
  | answers (b : Byte) (read : isRead i = true) (quiet : isStreamRead i s = false)
      (runs : exec i s = .next (s.respond b))
  /-- A streaming read, of the field at CURSOR or of the emitter's own (R117). -/
  | streams (k : Cursor) (read : isRead i = true) (stream : isStreamRead i s = true)
      (selected : k = s.cursor ∨ i = fieldAt k) (runs : exec i s = .next (streamField k s))
  /-- A command byte (R90, R97, R98). -/
  | writesCommand (v : Byte) (command : i = .wrCmd v ∨ i = .cmdOther v ∨ (i = .cmdStream ∧ v = 0x15#8))
      (runs : exec i s = .next (writeCommand v s))
  /-- A data byte (R91). -/
  | writesData (v : Byte) (data : i = .wrData v)
  /-- A write to neither port (R92). -/
  | writesNothing (addr : Nat) (v : Byte) (none : i = .wrNone addr v)
  /-- INIT (R140). -/
  | launches (t : Seconds) (rt : Bool) (init : i = .init t rt)
  /-- ADVANCE (R141). -/
  | advances (n : Nat) (advance : i = .advance n)

/-- Every operation in every state is of one of the kinds. -/
theorem exec_effect (i : Instr) (s : State) : Effect i s := by
  cases i with
  | rdNone a => exact .answers _ rfl rfl (exec_rdNone s a)
  | rdCmd => exact .answers _ rfl rfl (exec_rdCmd s)
  | rdDataEcho => exact .answers _ rfl rfl (exec_rdDataEcho s)
  | rdData =>
    by_cases streaming : s.cmd = 0x15#8
    · exact .streams s.cursor rfl (beq_iff_eq.2 streaming) (.inl rfl) (exec_rdData_streaming streaming)
    · exact .answers _ rfl (beq_eq_false_iff_ne.2 streaming) (exec_rdData_idle streaming)
  | rdDataStream => exact .streams s.cursor rfl rfl (.inl rfl) (exec_rdDataStream s)
  | wrNone a v => exact .writesNothing a v rfl
  | wrCmd v => exact .writesCommand v (.inl rfl) (exec_wrCmd s v)
  | wrData v => exact .writesData v rfl
  | init t rt => exact .launches t rt rfl
  | advance n => exact .advances n rfl
  | cmdStream => exact .writesCommand 0x15#8 (.inr (.inr ⟨rfl, rfl⟩)) (exec_cmdStream s)
  | cmdOther v => exact .writesCommand v (.inr (.inl rfl)) (exec_cmdOther s v)
  | fieldYear => exact .streams 0 rfl rfl (.inr rfl) (exec_fieldYear s)
  | fieldMonth => exact .streams 1 rfl rfl (.inr rfl) (exec_fieldMonth s)
  | fieldDay => exact .streams 2 rfl rfl (.inr rfl) (exec_fieldDay s)
  | fieldWday => exact .streams 3 rfl rfl (.inr rfl) (exec_fieldWday s)
  | fieldHour => exact .streams 4 rfl rfl (.inr rfl) (exec_fieldHour s)
  | fieldMin => exact .streams 5 rfl rfl (.inr rfl) (exec_fieldMin s)
  | fieldSec => exact .streams 6 rfl rfl (.inr rfl) (exec_fieldSec s)

theorem next_inj {s t : State} (h : (.next s : Host.Outcome State Fault Refusal) = .next t) : t = s := by
  cases h
  rfl

theorem exec_next_unique {i : Instr} {s t u : State} (runs : exec i s = .next u) (h : exec i s = .next t) : t = u :=
  next_inj (runs.symm.trans h)

/-- R40: an operation is a port operation or one of the two lifecycle calls. -/
theorem isPortOp_or_lifecycle (i : Instr) : isPortOp i = true ∨ (∃ t rt, i = .init t rt) ∨ ∃ n, i = .advance n := by
  cases i with
  | init t rt => exact .inr (.inl ⟨t, rt, rfl⟩)
  | advance n => exact .inr (.inr ⟨n, rfl⟩)
  | _ => exact .inl rfl

/-! ### CMD, CURSOR and the host clock -/

/-- R99: the FSM state is a function of CMD. -/
theorem State.fsm_congr {s t : State} (h : t.cmd = s.cmd) : t.fsm = s.fsm := by rw [State.fsm, State.fsm, h]

section
variable (v : Byte) (s : State)
@[simp] theorem writeCommand_cmd : (writeCommand v s).cmd = v := by rw [writeCommand_eq]
@[simp] theorem writeCommand_mode : (writeCommand v s).mode = s.mode := by rw [writeCommand_eq]
@[simp] theorem writeCommand_time : (writeCommand v s).time = s.time := by rw [writeCommand_eq]
@[simp] theorem writeCommand_acc : (writeCommand v s).acc = s.acc := by rw [writeCommand_eq]
@[simp] theorem writeCommand_hostAnswers : (writeCommand v s).hostAnswers = s.hostAnswers := by rw [writeCommand_eq]
@[simp] theorem writeCommand_hostQueries : (writeCommand v s).hostQueries = s.hostQueries := by rw [writeCommand_eq]
@[simp] theorem writeCommand_returned : (writeCommand v s).returned = s.returned := by rw [writeCommand_eq]
end

section
variable (n : Nat) (s : State)
@[simp] theorem advanceClock_cmd : (advanceClock n s).cmd = s.cmd := by
  obtain ⟨_, _, e⟩ := advanceClock_cases n s; rw [e]
@[simp] theorem advanceClock_cursor : (advanceClock n s).cursor = s.cursor := by
  obtain ⟨_, _, e⟩ := advanceClock_cases n s; rw [e]
@[simp] theorem advanceClock_mode : (advanceClock n s).mode = s.mode := by
  obtain ⟨_, _, e⟩ := advanceClock_cases n s; rw [e]
@[simp] theorem advanceClock_hostAnswers : (advanceClock n s).hostAnswers = s.hostAnswers := by
  obtain ⟨_, _, e⟩ := advanceClock_cases n s; rw [e]
@[simp] theorem advanceClock_hostQueries : (advanceClock n s).hostQueries = s.hostQueries := by
  obtain ⟨_, _, e⟩ := advanceClock_cases n s; rw [e]
end

/-- ADVANCE that completes is the closed form R143. -/
theorem eq_advanceClock_of_exec {n : Nat} {s t : State} (h : exec (.advance n) s = .next t) : t = advanceClock n s := by
  rw [exec_advance] at h
  split at h
  · cases h
  · exact next_inj h

/-- R125 as a number. -/
theorem nextCursor_val (c : Cursor) : (nextCursor c).val = (c.val + 1) % 7 := by
  rw [nextCursor_eq]
  rfl

/-- R111, D17: what the one call of `Now()` costs. -/
theorem State.afterNow_host (s : State) :
    s.afterNow.hostQueries = s.hostQueries + (if s.mode == .realtime then 1 else 0) ∧
    s.afterNow.hostAnswers = s.hostAnswers.drop (if s.mode == .realtime then 1 else 0) := by
  cases mode : s.mode with
  | simulated => simp [State.afterNow_simulated mode]
  | realtime => simp [State.afterNow_realtime mode]

theorem isInit_of_isRead {i : Instr} (read : isRead i = true) : isInit i = false := by
  cases i with
  | init t rt => cases read
  | _ => rfl

/-- D17, for every operation but INIT. -/
theorem hostCalls_eq {i : Instr} (other : isInit i = false) (s : State) :
    hostCalls i s = if isStreamRead i s && s.mode == .realtime then 1 else 0 := by
  cases i with
  | init t rt => cases other
  | _ => rfl

theorem hostCalls_of_quiet {i : Instr} {s : State} (other : isInit i = false) (quiet : isStreamRead i s = false) :
    hostCalls i s = 0 := by
  simp [hostCalls_eq other, quiet]

theorem hostCalls_of_stream {i : Instr} {s : State} (other : isInit i = false) (stream : isStreamRead i s = true) :
    hostCalls i s = if s.mode == .realtime then 1 else 0 := by
  simp [hostCalls_eq other, stream]

/-! ### The clock -/

/-- R101 item 4: MODE, TIME and ACC under one port operation. -/
theorem exec_portOp_keeps_clock {i : Instr} {s t : State} (port : isPortOp i = true) (h : exec i s = .next t) :
    t.mode = s.mode ∧ t.time = s.time ∧ t.acc = s.acc := by
  rcases exec_next_cases h with
    ⟨b, rfl⟩ | rfl | ⟨v, rfl⟩ | ⟨v, rfl⟩ | ⟨k, rfl⟩ | ⟨a, rt, rfl, rfl⟩ | ⟨n, rfl, _, rfl⟩
  case inr.inr.inr.inr.inr.inl => cases port
  case inr.inr.inr.inr.inr.inr => cases port
  all_goals simp

/-- R25: MODE under one operation that is no INIT. -/
theorem exec_keeps_mode {i : Instr} {s t : State} (other : isInit i = false) (h : exec i s = .next t) :
    t.mode = s.mode := by
  rcases isPortOp_or_lifecycle i with port | ⟨a, rt, rfl⟩ | ⟨n, rfl⟩
  · exact (exec_portOp_keeps_clock port h).1
  · cases other
  · rw [eq_advanceClock_of_exec h, advanceClock_mode]

/-- R30 items 3 and 4: TIME and ACC in real-time mode. -/
theorem exec_realtime_keeps_clock {i : Instr} {s t : State} (realtime : s.mode = .realtime) (other : isInit i = false)
    (h : exec i s = .next t) : t.time = s.time ∧ t.acc = s.acc := by
  rcases isPortOp_or_lifecycle i with port | ⟨a, rt, rfl⟩ | ⟨n, rfl⟩
  · exact (exec_portOp_keeps_clock port h).2
  · cases other
  · rw [eq_advanceClock_of_exec h, advanceClock_realtime realtime]
    exact ⟨rfl, rfl⟩

/-! ### The accumulator invariant -/

/-- The invariant depends on MODE and ACC alone. -/
theorem State.Inv.congr {s t : State} (inv : s.Inv) (mode : t.mode = s.mode) (acc : t.acc = s.acc) : t.Inv := by
  rw [State.Inv, mode, acc]
  exact inv

theorem State.inv_of_acc_zero {s : State} (zero : s.acc = 0) : s.Inv := by
  refine ⟨?_, fun _ => zero⟩
  rw [zero]
  decide

/-- R141: in simulated mode the remainder is below one second's cycles; in real-time mode nothing changes. -/
theorem advanceClock_keeps_inv (n : Nat) {s : State} (inv : s.Inv) : (advanceClock n s).Inv := by
  cases mode : s.mode with
  | realtime => rwa [advanceClock_realtime mode]
  | simulated =>
    rw [advanceClock_simulated mode]
    exact ⟨Nat.mod_lt _ (by decide), fun realtime => by simp [mode] at realtime⟩

theorem exec_keeps_inv {i : Instr} {s t : State} (inv : s.Inv) (h : exec i s = .next t) : t.Inv := by
  rcases isPortOp_or_lifecycle i with port | ⟨a, rt, rfl⟩ | ⟨n, rfl⟩
  · obtain ⟨mode, _, acc⟩ := exec_portOp_keeps_clock port h
    exact inv.congr mode acc
  · rw [exec_init] at h
    rw [next_inj h]
    exact State.inv_of_acc_zero rfl
  · rw [eq_advanceClock_of_exec h]
    exact advanceClock_keeps_inv n inv

/-! ### Sequences -/

/-- R72: a sequence that completes has completed its first operation. -/
theorem execAll_cons_completes {i : Instr} {is : List Instr} {s t : State} (h : execAll (i :: is) s = .next t) :
    ∃ u, exec i s = .next u ∧ execAll is u = .next t := by
  cases e : exec i s with
  | next u => exact ⟨u, rfl, (execAll_cons_next e).symm.trans h⟩
  | fault r => cases r
  | refused r => rw [execAll, e] at h; cases h

/-- R72: what every operation of a sequence keeps, the sequence keeps. -/
theorem execAll_keeps {P : State → Prop} {is : List Instr} {s t : State}
    (keeps : ∀ i ∈ is, ∀ u v, P u → exec i u = .next v → P v) (holds : P s) (h : execAll is s = .next t) : P t := by
  induction is generalizing s with
  | nil => exact next_inj h ▸ holds
  | cons i rest ih =>
    obtain ⟨u, first, others⟩ := execAll_cons_completes h
    exact ih (fun j hj => keeps j (List.mem_cons_of_mem i hj)) (keeps i List.mem_cons_self s u holds first) others

end Sys2Proof.Machine
end

section
/-!
The statements about every operation: what it does by the row selected for it (30_encoding.md section 6), what changes
CMD, CURSOR and the host clock (10_state.md, 40_register_interface.md, 41_time_streamer.md), what it returns
(60_exceptions.md), and the accumulator invariant (10_state.md R30).
-/

namespace Sys2Proof.Invariants
open Sys2Proof.Machine

/-! ### The accumulator invariant -/

/-- Settles O56: a step keeps the state or executes one operation, which keeps the invariant. -/
theorem everyStepKeepsTheAccumulatorInvariant : Obligations.EveryStepKeepsTheAccumulatorInvariant := by
  intro s t inv h
  rcases step_next_cases h with ⟨_, rfl⟩ | ⟨c, rest, i, _, _, _, runs⟩
  · exact inv
  · exact exec_keeps_inv (s := { s with inbox := rest }) inv runs

/-- Settles O57: INIT zeroes ACC in both modes. -/
theorem resetHasTheAccumulatorInvariant : Obligations.ResetHasTheAccumulatorInvariant :=
  State.inv_of_acc_zero rfl

/-- Settles O47, for either launch mode. -/
theorem resetIsTheStateAfterTheLaunchingInit : Obligations.ResetIsTheStateAfterTheLaunchingInit := by
  unfold Obligations.ResetIsTheStateAfterTheLaunchingInit State.reset
  rw [exec_init]
  cases Config.launchRealtime with
  | false => rw [launch_simulated]; rfl
  | true => rw [launch_realtime]; rfl

/-! ### What one operation does -/

/-- Settles O13: only WR_CMD and the two streaming reads have another row. -/
theorem everyOperationDoesWhatItsSelectedRowDoes : Obligations.EveryOperationDoesWhatItsSelectedRowDoes := by
  intro i s
  cases i with
  | wrCmd v =>
    by_cases stream : v = Config.streamCmd
    · rw [selectedRow, decodeCommand, if_pos stream, stream, exec_wrCmd, exec_cmdStream]
    · rw [selectedRow, decodeCommand, if_neg stream, exec_wrCmd, exec_cmdOther]
  | rdData =>
    by_cases streaming : s.cmd = Config.streamCmd
    · rw [selectedRow, if_pos streaming, exec_rdData_eq_fieldAt streaming rfl]
    · rw [selectedRow, if_neg streaming, exec_rdData_idle streaming, exec_rdDataEcho]
  | rdDataStream => rw [selectedRow, exec_rdDataStream, exec_fieldAt]
  | _ => rfl

/-- Settles O24: no kind of operation but a command byte and INIT writes CMD. -/
theorem onlyCommandBytesAndInitChangeTheFsmState : Obligations.OnlyCommandBytesAndInitChangeTheFsmState := by
  intro i s t h
  have kept (cmd : t.cmd = s.cmd) : t.cmd = s.cmd ∧ t.fsm = s.fsm := ⟨cmd, State.fsm_congr cmd⟩
  cases exec_effect i s with
  | answers b read quiet runs => exact .inl (kept (by rw [exec_next_unique runs h, State.respond_cmd]))
  | streams k read stream selected runs => exact .inl (kept (by rw [exec_next_unique runs h, streamField_cmd]))
  | writesCommand v command runs =>
    have cmd : t.cmd = v := by rw [exec_next_unique runs h, writeCommand_cmd]
    have fsm : t.fsm = .streaming ↔ v = 0x15#8 := by rw [State.fsm_eq_streaming, cmd]
    rcases command with byte | byte | ⟨stream, _⟩
    · exact .inr (.inr (.inr ⟨v, .inl byte, cmd, fsm⟩))
    · exact .inr (.inr (.inr ⟨v, .inr byte, cmd, fsm⟩))
    · exact .inr (.inr (.inl stream))
  | writesData v data =>
    subst data
    exact .inl (kept (by rw [next_inj h, State.setData_cmd]))
  | writesNothing a v none =>
    subst none
    exact .inl (kept (by rw [next_inj h]))
  | launches a rt init => exact .inr (.inl (by rw [init]; rfl))
  | advances n advance =>
    subst advance
    exact .inl (kept (by rw [eq_advanceClock_of_exec h, advanceClock_cmd]))

/-- Settles O25: a command byte writes CURSOR only when it is 0x15, and a streaming read moves on from its own field. -/
theorem cursorHasNoOtherWriters : Obligations.CursorHasNoOtherWriters := by
  intro i s t h other
  cases exec_effect i s with
  | answers b read quiet runs => exact .inl (by rw [exec_next_unique runs h, State.respond_cursor])
  | streams k read stream selected runs =>
    have moved : t.cursor.val = (k.val + 1) % 7 := by
      rw [exec_next_unique runs h, streamField_cursor, nextCursor_val]
    rcases selected with rfl | row
    · exact .inr (.inr (.inl ⟨stream, moved.symm⟩))
    · exact .inr (.inr (.inr ⟨k, row, moved⟩))
  | writesCommand v command runs =>
    obtain rfl := exec_next_unique runs h
    by_cases armed : v = 0x15#8
    · subst armed
      rw [writeCommand_eq, if_pos rfl]
      have row : i = .cmdStream ∨ i = .wrCmd 0x15#8 ∨ i = .cmdOther 0x15#8 := by
        rcases command with byte | byte | ⟨stream, _⟩
        · exact .inr (.inl byte)
        · exact .inr (.inr byte)
        · exact .inl stream
      exact .inr (.inl ⟨rfl, rfl, row⟩)
    · rw [writeCommand_eq, if_neg armed]
      exact .inl rfl
  | writesData v data =>
    subst data
    exact .inl (by rw [next_inj h, State.setData_cursor])
  | writesNothing a v none =>
    subst none
    exact .inl (by rw [next_inj h])
  | launches a rt init => rw [init] at other; cases other
  | advances n advance =>
    subst advance
    exact .inl (by rw [eq_advanceClock_of_exec h, advanceClock_cursor])

/-- Settles O27: no kind of operation but ADVANCE can stop. -/
theorem everyOperationButAdvanceAlwaysCompletes : Obligations.EveryOperationButAdvanceAlwaysCompletes := by
  intro i s notAdvance
  cases exec_effect i s with
  | answers b read quiet runs => exact ⟨_, [b], runs, rfl, by rw [read]; rfl⟩
  | streams k read stream selected runs =>
    obtain ⟨b, returned⟩ := streamField_returns_one k s
    exact ⟨_, [b], runs, returned, by rw [read]; rfl⟩
  | writesCommand v command runs =>
    have write : isRead i = false := by
      rcases command with rfl | rfl | ⟨rfl, _⟩ <;> rfl
    exact ⟨_, [], runs, by simp, by rw [write]; rfl⟩
  | writesData v data => exact ⟨_, [], data ▸ exec_wrData s v, by simp, by rw [data]; rfl⟩
  | writesNothing a v none => exact ⟨_, [], none ▸ exec_wrNone s a v, by simp, by rw [none]; rfl⟩
  | launches a rt init =>
    have silent : (launch a rt s).returned = s.returned := by cases rt <;> rfl
    exact ⟨_, [], init ▸ exec_init s a rt, by simp [silent], by rw [init]; rfl⟩
  | advances n advance => exact absurd advance (notAdvance n)

/-- Settles O41: the streaming reads take the present instant once, and INIT asks by its own operand. -/
theorem hostClockIsAskedExactlyWhereTheSpecSays : Obligations.HostClockIsAskedExactlyWhereTheSpecSays := by
  intro i s t h
  cases exec_effect i s with
  | answers b read quiet runs =>
    rw [hostCalls_of_quiet (isInit_of_isRead read) quiet, exec_next_unique runs h]
    exact ⟨rfl, rfl⟩
  | streams k read stream selected runs =>
    rw [hostCalls_of_stream (isInit_of_isRead read) stream, exec_next_unique runs h, streamField_hostQueries,
      streamField_hostAnswers]
    exact s.afterNow_host
  | writesCommand v command runs =>
    have quiet : hostCalls i s = 0 := by
      rcases command with rfl | rfl | ⟨rfl, _⟩ <;> rfl
    rw [quiet, exec_next_unique runs h, writeCommand_hostQueries, writeCommand_hostAnswers]
    exact ⟨rfl, rfl⟩
  | writesData v data =>
    subst data
    rw [next_inj h]
    exact ⟨rfl, rfl⟩
  | writesNothing a v none =>
    subst none
    rw [next_inj h]
    exact ⟨rfl, rfl⟩
  | launches a rt init =>
    subst init
    rw [exec_init] at h
    rw [next_inj h]
    cases rt with
    | false => exact ⟨rfl, rfl⟩
    | true => exact ⟨rfl, List.drop_one.symm⟩
  | advances n advance =>
    subst advance
    rw [eq_advanceClock_of_exec h, advanceClock_hostQueries, advanceClock_hostAnswers]
    exact ⟨rfl, rfl⟩

/-! ### What a sequence of operations keeps -/

/-- Settles O26, since each port operation keeps the three fields. -/
theorem portOperationsNeverMoveTheClock : Obligations.PortOperationsNeverMoveTheClock := by
  intro is s t ports h
  refine execAll_keeps (P := fun u => u.mode = s.mode ∧ u.time = s.time ∧ u.acc = s.acc) ?keeps ⟨rfl, rfl, rfl⟩ h
  intro i hi u v ⟨mode, time, acc⟩ runs
  obtain ⟨mode', time', acc'⟩ := exec_portOp_keeps_clock (ports i hi) runs
  exact ⟨mode'.trans mode, time'.trans time, acc'.trans acc⟩

/-- Settles O58: MODE is kept, so a real-time sequence stays one in which no operation moves TIME or ACC. -/
theorem modeIsFixedBetweenInits : Obligations.ModeIsFixedBetweenInits := by
  intro is s t others h
  refine execAll_keeps (P := fun u => u.mode = s.mode ∧ (s.mode = .realtime → u.time = s.time ∧ u.acc = s.acc))
    ?keeps ⟨rfl, fun _ => ⟨rfl, rfl⟩⟩ h
  intro i hi u v ⟨mode, clock⟩ runs
  refine ⟨(exec_keeps_mode (others i hi) runs).trans mode, fun realtime => ?clock⟩
  obtain ⟨time, acc⟩ := clock realtime
  obtain ⟨time', acc'⟩ := exec_realtime_keeps_clock (mode.trans realtime) (others i hi) runs
  exact ⟨time'.trans time, acc'.trans acc⟩

end Sys2Proof.Invariants
end

section
/-!
SUPPORT. States that an agent cannot tell apart (10_state.md R26, R31): operations under another TIME in real-time mode,
and under another CURSOR in Idle.
-/

namespace Sys2Proof.Machine

/-! ### Another TIME in real-time mode -/

theorem emit_withTime (v : Int) (next : Cursor) (s : State) (other : Seconds) :
    emit v next { s with time := other } = { emit v next s with time := other } := by
  unfold emit
  split <;> rfl

/-- R26: the present instant is the host clock's, so the field and the byte are those of the other TIME. -/
theorem streamField_withTime {s : State} (realtime : s.mode = .realtime) (k : Cursor) (other : Seconds) :
    streamField k { s with time := other } = { streamField k s with time := other } := by
  have now : ({ s with time := other } : State).nowCivil = s.nowCivil := by
    rw [State.nowCivil, State.nowCivil, State.now_realtime realtime,
      State.now_realtime (s := { s with time := other }) realtime]
    rfl
  have asked : ({ s with time := other } : State).afterNow = { s.afterNow with time := other } := by
    rw [State.afterNow_realtime realtime, State.afterNow_realtime (s := { s with time := other }) realtime]
    rfl
  rw [streamField, now, asked, emit_withTime, streamField]

/-- R26, R141: one operation that is no INIT completes in real-time mode, and does the same under another TIME. -/
theorem exec_realtime_withTime {i : Instr} {s : State} (realtime : s.mode = .realtime) (noInit : isInit i = false)
    (other : Seconds) :
    ∃ t, exec i s = .next t ∧ exec i { s with time := other } = .next { t with time := other } := by
  have stream (k : Cursor) :=
    congrArg (Host.Outcome.next (φ := Fault) (ρ := Refusal)) (streamField_withTime realtime k other)
  cases i with
  | init t rt => cases noInit
  | advance n =>
    exact ⟨s, exec_advance_realtime realtime n, exec_advance_realtime (s := { s with time := other }) realtime n⟩
  | rdData =>
    by_cases streaming : s.cmd = 0x15#8
    · exact ⟨_, exec_rdData_streaming streaming,
        (exec_rdData_streaming (s := { s with time := other }) streaming).trans (stream s.cursor)⟩
    · exact ⟨_, exec_rdData_idle streaming, exec_rdData_idle (s := { s with time := other }) streaming⟩
  | wrCmd v | cmdOther v => exact ⟨_, rfl, by simp only [exec_wrCmd, exec_cmdOther, writeCommand_eq]⟩
  | cmdStream => exact ⟨_, rfl, rfl⟩
  | rdNone | rdCmd | rdDataEcho | wrNone | wrData => exact ⟨_, rfl, rfl⟩
  | rdDataStream => exact ⟨_, rfl, stream s.cursor⟩
  | fieldYear | fieldMonth | fieldDay | fieldWday | fieldHour | fieldMin | fieldSec => exact ⟨_, rfl, stream _⟩

/-! ### Another CURSOR in Idle -/

/-- R31: the second state is the first, or differs from it in a CURSOR that Idle hides. -/
inductive CursorAlike (s : State) : State → Prop where
  | same : CursorAlike s s
  | hidden (idle : s.cmd ≠ 0x15#8) (other : Cursor) : CursorAlike s (s.setCursor other)

theorem CursorAlike.returned {s u : State} (h : CursorAlike s u) : u.returned = s.returned := by cases h <;> rfl

/-- Both outcomes are next states that differ at most in a hidden CURSOR, or the same refusal. -/
inductive OutcomesAlike : Host.Outcome State Fault Refusal → Host.Outcome State Fault Refusal → Prop where
  | next {s u : State} (alike : CursorAlike s u) : OutcomesAlike (.next s) (.next u)
  | refused (r : Refusal) : OutcomesAlike (.refused r) (.refused r)

theorem OutcomesAlike.refl (o : Host.Outcome State Fault Refusal) : OutcomesAlike o o := by
  cases o with
  | next s => exact .next .same
  | fault r => cases r
  | refused r => exact .refused r

theorem OutcomesAlike.of_next {s : State} {o : Host.Outcome State Fault Refusal} (h : OutcomesAlike (.next s) o) :
    ∃ u, o = .next u ∧ CursorAlike s u := by
  cases h with
  | next alike => exact ⟨_, rfl, alike⟩

theorem OutcomesAlike.of_refused {r : Refusal} {o : Host.Outcome State Fault Refusal}
    (h : OutcomesAlike (.refused r) o) : o = .refused r := by
  cases h
  rfl

/-- R90: the one command byte that shows CURSOR zeroes it first. -/
theorem writeCommand_alike (v : Byte) (s : State) (other : Cursor) :
    CursorAlike (writeCommand v s) (writeCommand v (s.setCursor other)) := by
  rw [writeCommand_eq, writeCommand_eq]
  by_cases stream : v = 0x15#8
  · rw [if_pos stream, if_pos stream]
    exact .same
  · rw [if_neg stream, if_neg stream]
    exact .hidden (s := { s with cmd := v }) stream other

theorem advanceClock_withCursor (n : Nat) (s : State) (other : Cursor) :
    advanceClock n (s.setCursor other) = (advanceClock n s).setCursor other := by
  cases mode : s.mode with
  | realtime => rw [advanceClock_realtime mode, advanceClock_realtime (s := s.setCursor other) mode]
  | simulated =>
    rw [advanceClock_simulated mode, advanceClock_simulated (s := s.setCursor other) mode]
    rfl

/-- INIT draws CURSOR without reading it. -/
theorem launch_withCursor (t : Seconds) (rt : Bool) (s : State) (other : Cursor) :
    launch t rt (s.setCursor other) = launch t rt s := by
  cases rt <;> rfl

/-- R31: an operation that the decoder reads from a word does the same in Idle whatever CURSOR is. -/
theorem exec_alike {w : OpWord} {i : Instr} (decoded : decodeOp w = .ok i) {s : State} (idle : s.cmd ≠ 0x15#8)
    (other : Cursor) : OutcomesAlike (exec i s) (exec i (s.setCursor other)) := by
  have word := encode_of_decodeOp decoded
  cases i with
  | rdNone a => exact .next (.hidden (s := s.respond Config.readDefault) idle other)
  | rdCmd => exact .next (.hidden (s := s.respond (withStatus s.cmd)) idle other)
  | rdDataEcho => exact .next (.hidden (s := echoData s) idle other)
  | wrNone a v => exact .next (.hidden idle other)
  | wrData v => exact .next (.hidden (s := s.setData v) idle other)
  | rdData =>
    rw [exec_rdData_idle idle, exec_rdData_idle (s := s.setCursor other) idle]
    exact .next (.hidden (s := echoData s) idle other)
  | rdDataStream => cases decodedAccess_of_decodeOp decoded
  | wrCmd v => exact .next (writeCommand_alike v s other)
  | init t rt =>
    rw [exec_init, exec_init, launch_withCursor]
    exact .refl _
  | advance n =>
    have sameTest : timeOverflows n (s.setCursor other) = timeOverflows n s := rfl
    rw [exec_advance, exec_advance, sameTest, advanceClock_withCursor]
    split
    · exact .refl _
    · exact .next (.hidden (s := advanceClock n s) (by rwa [advanceClock_cmd]) other)
  | cmdStream | cmdOther | fieldYear | fieldMonth | fieldDay | fieldWday | fieldHour | fieldMin | fieldSec =>
    cases word

theorem Call.decodeOp_of_instr {c : Call} {i : Instr} (h : c.instr = .ok i) : ∃ w, decodeOp w = .ok i := by
  unfold Call.instr at h
  split at h
  · cases h
  next w _ =>
    split at h
    · cases h
    next j decoded =>
      cases h
      exact ⟨w, decoded⟩

theorem step_alike {s u : State} (h : CursorAlike s u) : OutcomesAlike (step s) (step u) := by
  cases h with
  | same => exact .refl _
  | hidden idle other =>
    cases pending : s.inbox with
    | nil =>
      rw [step_of_inbox_nil pending, step_of_inbox_nil (s := s.setCursor other) pending]
      exact .next (.hidden idle other)
    | cons arrival rest =>
      cases arrival with
      | together c d =>
        rw [step_refuses_together pending, step_refuses_together (s := s.setCursor other) pending]
        exact .refused _
      | one c =>
        cases call : c.instr with
        | error r =>
          rw [step_refuses_oldest pending call, step_refuses_oldest (s := s.setCursor other) pending call]
          exact .refused r
        | ok i =>
          by_cases runs : s.created = true ∨ isInit i = true
          · obtain ⟨w, decoded⟩ := Call.decodeOp_of_instr call
            rw [step_runs_oldest pending call runs,
              step_runs_oldest (s := s.setCursor other) pending call runs]
            exact exec_alike decoded (s := { s with inbox := rest }) idle other
          · obtain ⟨absent, noInit⟩ : s.created = false ∧ isInit i = false := by simpa using runs
            rw [step_refuses_beforeInit absent pending call noInit,
              step_refuses_beforeInit (s := s.setCursor other) absent pending call noInit]
            exact .refused _

theorem runSteps_alike (k : Nat) {s u : State} (h : CursorAlike s u) : OutcomesAlike (runSteps k s) (runSteps k u) := by
  induction k generalizing s u with
  | zero => exact .next h
  | succ k ih =>
    have first := step_alike h
    cases runs : step s with
    | next t =>
      obtain ⟨v, runsOther, alike⟩ := (runs ▸ first).of_next
      rw [runSteps_succ_next runs, runSteps_succ_next runsOther]
      exact ih alike
    | fault r => cases r
    | refused r =>
      rw [runSteps_succ_refused runs, runSteps_succ_refused (runs ▸ first).of_refused]
      exact .refused r

end Sys2Proof.Machine
end

section
/-!
The statements about hidden state (10_state.md R26, R31).
-/

namespace Sys2Proof.HiddenState
open Sys2Proof.Machine

/-- Settles O59, by induction on the sequence: the states of the two runs differ in TIME alone all along. -/
theorem realtimeModeNeverReadsTime : Obligations.RealtimeModeNeverReadsTime := by
  intro is s other realtime noInits
  induction is generalizing s with
  | nil => exact ⟨s, rfl, rfl⟩
  | cons i rest ih =>
    have noInit := noInits i List.mem_cons_self
    obtain ⟨u, runs, runsOther⟩ := exec_realtime_withTime realtime noInit other
    have stillRealtime : u.mode = .realtime := (exec_keeps_mode noInit runs).trans realtime
    obtain ⟨t, done, doneOther⟩ := ih u stillRealtime fun j hj => noInits j (List.mem_cons_of_mem i hj)
    exact ⟨t, (execAll_cons_next runs).trans done, (execAll_cons_next runsOther).trans doneOther⟩

/-- Settles O60: the two runs go on differing at most in a hidden CURSOR. -/
theorem cursorIsUnobservableInIdle : Obligations.CursorIsUnobservableInIdle := by
  intro k s other idle
  have alike := runSteps_alike k (.hidden idle other)
  refine ⟨?completes, ?stops⟩
  case completes =>
    intro t done
    rw [done] at alike
    obtain ⟨u, doneOther, states⟩ := alike.of_next
    exact ⟨u, doneOther, states.returned⟩
  case stops =>
    intro r stopped
    rw [stopped] at alike
    exact alike.of_refused

end Sys2Proof.HiddenState
end

section
/-!
SUPPORT. The Gregorian calendar behind the date conversion (41_time_streamer.md R112). The conversion writes a day as a
March year `y`, which runs from 1 March of `y` to the end of February of `y + 1`, and a day within it. `marchStart`
counts the days before a March year, so a day lies in the one March year between two starts, and the next day is either
the next one of that year or the first of the following one.
-/

namespace Sys2Proof.Machine

/-! ### The March year of a day -/

/-- The day number of 1 March of year `y`, counted from 1 March of year 0. -/
def marchStart (y : Int) : Int := 365 * y + y / 4 - y / 100 + y / 400

/-- The leap day at the end of February of year `y`, as a count. -/
def leapDay (y : Int) : Int := if isLeap y then 1 else 0

/-- R112: the March year of a day counted from 1970-01-01. -/
def marchYear (days : Int) : Int := yearOfEra (dayOfEra days) + 400 * ((days + 719468) / 146097)

/-- R112: the day of that March year, from 0. -/
def marchDay (days : Int) : Int := dayOfYear (dayOfEra days)

theorem isLeap_iff (y : Int) : isLeap y = true ↔ y % 4 = 0 ∧ (y % 100 ≠ 0 ∨ y % 400 = 0) := by
  simp [isLeap]

theorem leapDay_range (y : Int) : 0 ≤ leapDay y ∧ leapDay y ≤ 1 := by
  unfold leapDay
  split <;> decide

/-- R112: a March year has the leap day of the February at its end. -/
theorem marchStart_succ (y : Int) : marchStart (y + 1) = marchStart y + 365 + leapDay (y + 1) := by
  unfold marchStart leapDay
  split
  next leap =>
    rw [isLeap_iff] at leap
    omega
  next common =>
    rw [isLeap_iff] at common
    omega

theorem marchStart_strictMono : StrictMono marchStart := by
  refine strictMono_int_of_lt_succ fun y => ?_
  have step := marchStart_succ y
  have leap := leapDay_range (y + 1)
  omega

/-- R112: a day of the era lies before the end of its March year. Where that year has no leap day at its end, its length
is bounded by the leap days so far, or, in the last year of a century, by the end of the century. -/
theorem dayOfYear_lt {doe : Int} (lo : 0 ≤ doe) (hi : doe ≤ 146096) :
    dayOfYear doe < 365 + leapDay (yearOfEra doe + 1) := by
  unfold leapDay
  split
  next leap =>
    have range := dayOfYear_range lo hi
    omega
  next common =>
    rcases hi.eq_or_lt with rfl | inside
    · exact absurd (by decide) common
    · have year : yearOfEra doe = (doe - doe / 1460 + doe / 36524 - doe / 146096) / 365 := rfl
      have century := yearOfEra_century lo inside
      rw [isLeap_iff] at common
      unfold dayOfYear
      by_cases four : (yearOfEra doe + 1) % 4 = 0
      · have lastOfCentury : (yearOfEra doe + 1) % 100 = 0 := by
          by_contra other
          exact common ⟨four, .inl other⟩
        omega
      · have early : yearOfEra doe % 4 ≤ 2 := by omega
        have noLeapDayYet : doe / 1460 ≤ yearOfEra doe / 4 := by omega
        omega

theorem yearOfEra_range {doe : Int} (lo : 0 ≤ doe) (hi : doe ≤ 146096) : 0 ≤ yearOfEra doe ∧ yearOfEra doe ≤ 399 := by
  unfold yearOfEra
  omega

theorem leapDay_add_eras (y era : Int) : leapDay (y + 400 * era) = leapDay y := by
  have same : isLeap (y + 400 * era) = isLeap y := by
    rw [Bool.eq_iff_iff, isLeap_iff, isLeap_iff]
    omega
  rw [leapDay, leapDay, same]

/-- A day is its place after the start of its March year. -/
theorem marchStart_add_marchDay (days : Int) : marchStart (marchYear days) + marchDay days = days + 719468 := by
  obtain ⟨eraLo, eraHi⟩ := dayOfEra_range days
  have year := yearOfEra_range eraLo eraHi
  have era : dayOfEra days + 146097 * ((days + 719468) / 146097) = days + 719468 := Int.emod_add_mul_ediv _ _
  unfold marchStart marchDay marchYear dayOfYear
  omega

/-- That place is within the March year. -/
theorem marchDay_range (days : Int) : 0 ≤ marchDay days ∧ marchDay days < 365 + leapDay (marchYear days + 1) := by
  obtain ⟨eraLo, eraHi⟩ := dayOfEra_range days
  have length : leapDay (marchYear days + 1) = leapDay (yearOfEra (dayOfEra days) + 1) := by
    rw [marchYear, add_right_comm, leapDay_add_eras]
  exact ⟨(dayOfYear_range eraLo eraHi).1, length ▸ dayOfYear_lt eraLo eraHi⟩

/-- The March year of a day is the only one that it lies in. -/
theorem marchYear_eq {days y : Int} (starts : marchStart y ≤ days + 719468)
    (ends : days + 719468 < marchStart (y + 1)) : marchYear days = y := by
  have place := marchStart_add_marchDay days
  have range := marchDay_range days
  have next := marchStart_succ (marchYear days)
  have notLater : marchYear days < y + 1 := marchStart_strictMono.lt_iff_lt.1 (by omega)
  have notEarlier : y < marchYear days + 1 := marchStart_strictMono.lt_iff_lt.1 (by omega)
  omega

/-- The day after one that is not the last of its March year. -/
theorem march_succ_inside {days : Int} (inside : marchDay days + 1 < 365 + leapDay (marchYear days + 1)) :
    marchYear (days + 1) = marchYear days ∧ marchDay (days + 1) = marchDay days + 1 := by
  have place := marchStart_add_marchDay days
  have placeNext := marchStart_add_marchDay (days + 1)
  have range := marchDay_range days
  have next := marchStart_succ (marchYear days)
  have year : marchYear (days + 1) = marchYear days := marchYear_eq (by omega) (by omega)
  rw [year] at placeNext
  exact ⟨year, by omega⟩

/-- The day after the last of a March year is the first of the following one. -/
theorem march_succ_last {days : Int} (last : marchDay days + 1 = 365 + leapDay (marchYear days + 1)) :
    marchYear (days + 1) = marchYear days + 1 ∧ marchDay (days + 1) = 0 := by
  have place := marchStart_add_marchDay days
  have placeNext := marchStart_add_marchDay (days + 1)
  have next := marchStart_succ (marchYear days)
  have afterNext := marchStart_succ (marchYear days + 1)
  have leap := leapDay_range (marchYear days + 1 + 1)
  have year : marchYear (days + 1) = marchYear days + 1 := marchYear_eq (by omega) (by omega)
  rw [year] at placeNext
  exact ⟨year, by omega⟩

/-! ### The month of a day of the March year -/

/-- R112: the days of the March year before its month `mp`. -/
def monthStart (mp : Int) : Int := (153 * mp + 2) / 5

theorem marchMonth_between (doy : Int) : monthStart (marchMonth doy) ≤ doy ∧ doy < monthStart (marchMonth doy + 1) := by
  unfold monthStart marchMonth
  omega

theorem marchMonth_eq {doy mp : Int} (starts : monthStart mp ≤ doy) (ends : doy < monthStart (mp + 1)) :
    marchMonth doy = mp := by
  unfold monthStart at starts ends
  unfold marchMonth
  omega

/-- The Gregorian month, 0 = January, of the month `mp` of the March year. -/
def monthFromJanuary (mp : Int) : Int := if mp < 10 then mp + 2 else mp - 10

/-- R112: every month but February ends where the next one of the March year starts. -/
theorem daysInMonth_march (y : Int) {mp : Int} (lo : 0 ≤ mp) (hi : mp < 11) :
    daysInMonth y (monthFromJanuary mp) = monthStart (mp + 1) - monthStart mp := by
  interval_cases mp <;> rfl

theorem daysInMonth_february (y : Int) : daysInMonth y 1 = 28 + leapDay y := by
  unfold daysInMonth leapDay
  rw [if_pos rfl]
  split <;> rfl

/-! ### The date of a day -/

/-- The date of a day counted from 1970-01-01. -/
def dateOfDay (days : Int) : Int × Int × Int :=
  (gregorianYear days - 1900, monthOfYear (marchDay days) - 1, monthDay (marchDay days))

theorem civil_date (t : Int) : (civil t).date = dateOfDay (epochDays t) := rfl

theorem marchMonth_marchDay_range (days : Int) : 0 ≤ marchMonth (marchDay days) ∧ marchMonth (marchDay days) ≤ 11 := by
  have range := marchDay_range days
  have leap := leapDay_range (marchYear days + 1)
  exact marchMonth_range range.1 (by omega)

/-- The date of the day `doy` in the month `mp` of the March year `y`; January and February are of the year after. -/
def dateOfMarch (y mp doy : Int) : Int × Int × Int :=
  ((if mp < 10 then y else y + 1) - 1900, monthFromJanuary mp, doy - monthStart mp + 1)

theorem dateOfDay_eq {days mp : Int} (month : marchMonth (marchDay days) = mp) :
    dateOfDay days = dateOfMarch (marchYear days) mp (marchDay days) := by
  have range := marchMonth_marchDay_range days
  have year : gregorianYear days = marchYear days + if monthOfYear (marchDay days) ≤ 2 then 1 else 0 := rfl
  have day : monthDay (marchDay days) = marchDay days - monthStart (marchMonth (marchDay days)) + 1 := rfl
  rw [dateOfDay, dateOfMarch, year, day, month]
  by_cases fromMarch : mp < 10
  · have name : monthOfYear (marchDay days) = mp + 3 := by rw [monthOfYear, month, if_pos fromMarch]
    rw [name, if_neg (by omega), if_pos fromMarch, monthFromJanuary, if_pos fromMarch]
    simp only [Prod.mk.injEq, and_true]
    omega
  · have name : monthOfYear (marchDay days) = mp - 9 := by rw [monthOfYear, month, if_neg fromMarch]
    rw [name, if_pos (by omega), if_neg fromMarch, monthFromJanuary, if_neg fromMarch]
    simp only [Prod.mk.injEq, and_true, true_and]
    omega

theorem nextDate_inMonth {y m d : Int} (inside : d < daysInMonth (y + 1900) m) : nextDate (y, m, d) = (y, m, d + 1) :=
  if_pos inside

theorem nextDate_endOfMonth {y m d : Int} (last : ¬d < daysInMonth (y + 1900) m) (month : m < 11) :
    nextDate (y, m, d) = (y, m + 1, 1) :=
  (if_neg last).trans (if_pos month)

theorem nextDate_endOfYear {y m d : Int} (last : ¬d < daysInMonth (y + 1900) m) (month : ¬m < 11) :
    nextDate (y, m, d) = (y + 1, 0, 1) :=
  (if_neg last).trans (if_neg month)

/-- R112: the last day of a month other than February is followed by the first of the next month of the March year. -/
theorem nextDate_endOfMarchMonth {y mp doy : Int} (lo : 0 ≤ mp) (hi : mp < 11) (last : doy + 1 = monthStart (mp + 1)) :
    nextDate (dateOfMarch y mp doy) = dateOfMarch y (mp + 1) (doy + 1) := by
  have length := daysInMonth_march ((if mp < 10 then y else y + 1) - 1900 + 1900) lo hi
  have complete : ¬doy - monthStart mp + 1 < monthStart (mp + 1) - monthStart mp := by omega
  rw [← length] at complete
  have firstDay : doy + 1 - monthStart (mp + 1) + 1 = 1 := by omega
  rw [dateOfMarch, dateOfMarch, firstDay]
  by_cases december : mp = 9
  · subst december
    rw [nextDate_endOfYear complete (by decide)]
    exact congrArg (·, (0 : Int), (1 : Int)) (add_sub_right_comm y 1 1900).symm
  · have month : monthFromJanuary (mp + 1) = monthFromJanuary mp + 1 ∧ monthFromJanuary mp < 11 := by
      unfold monthFromJanuary
      split <;> omega
    have year : (if mp + 1 < 10 then y else y + 1) = if mp < 10 then y else y + 1 := by
      split <;> omega
    rw [nextDate_endOfMonth complete month.2, month.1, year]

/-- R112: the day after, in a month of March to January. -/
theorem dateOfDay_succ_march {days mp : Int} (month : marchMonth (marchDay days) = mp) (lo : 0 ≤ mp) (hi : mp < 11) :
    dateOfDay (days + 1) = nextDate (dateOfDay days) := by
  obtain ⟨starts, ends⟩ := month ▸ marchMonth_between (marchDay days)
  have leap := leapDay_range (marchYear days + 1)
  have monthEnd : monthStart (mp + 1) ≤ 337 ∧ monthStart (mp + 1) < monthStart (mp + 1 + 1) := by
    unfold monthStart
    omega
  obtain ⟨year, day⟩ := march_succ_inside (days := days) (by omega)
  rw [dateOfDay_eq month]
  by_cases inside : marchDay days + 1 < monthStart (mp + 1)
  · have sameMonth : marchMonth (marchDay (days + 1)) = mp := marchMonth_eq (by omega) (by omega)
    have length := daysInMonth_march ((if mp < 10 then marchYear days else marchYear days + 1) - 1900 + 1900) lo hi
    have next : nextDate (dateOfMarch (marchYear days) mp (marchDay days)) = _ := nextDate_inMonth (by omega)
    rw [dateOfDay_eq sameMonth, next, year, day, dateOfMarch, add_sub_right_comm]
  · have nextMonth : marchMonth (marchDay (days + 1)) = mp + 1 := marchMonth_eq (by omega) (by omega)
    rw [dateOfDay_eq nextMonth, nextDate_endOfMarchMonth lo hi (by omega), year, day]

/-- R112: the day after, in February: its length is the only one that the leap rule changes. -/
theorem dateOfDay_succ_february {days : Int} (month : marchMonth (marchDay days) = 11) :
    dateOfDay (days + 1) = nextDate (dateOfDay days) := by
  have range := marchDay_range days
  have leap := leapDay_range (marchYear days + 1)
  have start : 337 ≤ marchDay days := (month ▸ marchMonth_between (marchDay days)).1
  have length : daysInMonth (marchYear days + 1 - 1900 + 1900) 1 = 28 + leapDay (marchYear days + 1) := by
    rw [daysInMonth_february, sub_add_cancel]
  have date : dateOfDay days = (marchYear days + 1 - 1900, 1, marchDay days - 337 + 1) := dateOfDay_eq month
  rw [date]
  by_cases inside : marchDay days + 1 < 365 + leapDay (marchYear days + 1)
  · obtain ⟨year, day⟩ := march_succ_inside inside
    have upTo : marchDay days + 1 < monthStart (11 + 1) := show marchDay days + 1 < 367 by omega
    have sameMonth : marchMonth (marchDay (days + 1)) = 11 := day ▸ marchMonth_eq (show 337 ≤ _ by omega) upTo
    have nextDay : marchDay days + 1 - 337 + 1 = marchDay days - 337 + 1 + 1 := by omega
    rw [nextDate_inMonth (by omega), dateOfDay_eq sameMonth, year, day, ← nextDay]
    rfl
  · obtain ⟨year, day⟩ := march_succ_last (days := days) (by omega)
    have firstMonth : marchMonth (marchDay (days + 1)) = 0 := by rw [day]; rfl
    rw [nextDate_endOfMonth (by omega) (by decide), dateOfDay_eq firstMonth, year, day]
    rfl

theorem dateOfDay_succ (days : Int) : dateOfDay (days + 1) = nextDate (dateOfDay days) := by
  obtain ⟨monthLo, monthHi⟩ := marchMonth_marchDay_range days
  rcases monthHi.eq_or_lt with february | march
  · exact dateOfDay_succ_february february
  · exact dateOfDay_succ_march rfl monthLo march

/-! ### Year, weekday and time of day -/

/-- R113: a later day has no earlier year, since the next date never has. -/
theorem gregorianYear_mono : Monotone gregorianYear := by
  refine monotone_int_of_le_succ fun days => ?_
  have next : gregorianYear (days + 1) - 1900 = (nextDate (dateOfDay days)).1 := by rw [← dateOfDay_succ, dateOfDay]
  have later : (dateOfDay days).1 ≤ (nextDate (dateOfDay days)).1 := by
    unfold nextDate
    split
    · exact le_rfl
    · split <;> simp
  have this : (dateOfDay days).1 = gregorianYear days - 1900 := rfl
  omega

theorem civil_year (t : Int) : (civil t).year = gregorianYear (epochDays t) - 1900 := rfl

theorem civil_wday (t : Int) : (civil t).wday = (t / 86400 + 4) % 7 := rfl

theorem civil_wday_range (t : Int) : 0 ≤ (civil t).wday ∧ (civil t).wday ≤ 6 := by
  rw [civil_wday]
  omega

theorem epochDays_add_day (t : Int) : epochDays (t + 86400) = epochDays t + 1 := by
  unfold epochDays fdiv
  omega

theorem secondOfDay_add_day (t : Int) : secondOfDay (t + 86400) = secondOfDay t := by
  unfold secondOfDay fmod
  omega

theorem epochDays_midnight (t : Int) : epochDays (t - t % 86400) = epochDays t := by
  unfold epochDays fdiv
  omega

/-! ### BCD -/

/-- R114: the two nibbles do not overlap. -/
theorem bcd_toNat {v : Nat} (twoDigits : v ≤ 99) : (bcd v).toNat = 16 * (v / 10) + v % 10 := by
  have tens : (BitVec.ofNat 8 (v / 10) <<< 4).toNat = (v / 10) <<< 4 := by
    have small : v / 10 < 2 ^ 8 := by omega
    have shifted : (v / 10) <<< 4 < 2 ^ 8 := by
      rw [Nat.shiftLeft_eq]
      omega
    rw [BitVec.toNat_shiftLeft, BitVec.toNat_ofNat, Nat.mod_eq_of_lt small, Nat.mod_eq_of_lt shifted]
  have ones : (BitVec.ofNat 8 (v % 10)).toNat = v % 10 := by
    rw [BitVec.toNat_ofNat]
    omega
  rw [bcd, BitVec.toNat_or, tens, ones, ← Nat.shiftLeft_add_eq_or_of_lt (by omega), Nat.shiftLeft_eq]
  omega

end Sys2Proof.Machine
end

section
/-!
The statements about the calendar, BCD and the weekday emitter (41_time_streamer.md R110, R112 to R114, R129).
-/

namespace Sys2Proof.Calendar
open Sys2Proof.Machine

/-- Settles O29, by the range of each field. -/
theorem calendarFieldsStayInTheirRanges : Obligations.CalendarFieldsStayInTheirRanges := by
  intro t
  obtain ⟨monthLo, monthHi⟩ := civil_month_range t
  obtain ⟨dayLo, dayHi⟩ := civil_mday_range t
  obtain ⟨weekdayLo, weekdayHi⟩ := civil_wday_range t
  obtain ⟨hourLo, hourHi⟩ := civil_hour_range t
  obtain ⟨minuteLo, minuteHi⟩ := civil_minute_range t
  obtain ⟨secondLo, secondHi⟩ := civil_second_range t
  exact ⟨monthLo, monthHi, dayLo, dayHi, weekdayLo, weekdayHi, hourLo, hourHi, minuteLo, minuteHi, secondLo, secondHi⟩

/-- Settles O31: the day after is the next date, and the time of day is the remainder that a whole day leaves. -/
theorem civilFollowsTheGregorianCalendarDayByDay : Obligations.CivilFollowsTheGregorianCalendarDayByDay := by
  refine ⟨fun t => ⟨?date, ?weekday, ?hour, ?minute, ?second, ?timeOfDay, ?midnightDate, ?midnightWeekday⟩, rfl, rfl⟩
  case date => rw [civil_date, civil_date, epochDays_add_day, dateOfDay_succ]
  case weekday =>
    rw [civil_wday, civil_wday]
    omega
  case hour => rw [civil_hour, civil_hour, secondOfDay_add_day]
  case minute => rw [civil_minute, civil_minute, secondOfDay_add_day]
  case second => rw [civil_second, civil_second, secondOfDay_add_day]
  case timeOfDay =>
    have remainder : secondOfDay t = t % 86400 := rfl
    rw [civil_hour, civil_minute, civil_second, remainder]
    omega
  case midnightDate => rw [civil_date, civil_date, epochDays_midnight]
  case midnightWeekday =>
    rw [civil_wday, civil_wday]
    omega

/-- Settles O30: the year never falls, and the days around the two ends of the window have the years at its ends. -/
theorem theYearFieldHasTwoDigitsExactlyInTheWindow : Obligations.TheYearFieldHasTwoDigitsExactlyInTheWindow := by
  intro t
  have before : gregorianYear 10956 = 1999 := rfl
  have first : gregorianYear 10957 = 2000 := rfl
  have last : gregorianYear 47481 = 2099 := rfl
  have after : gregorianYear 47482 = 2100 := rfl
  have day : epochDays t = t / 86400 := rfl
  rw [civil_year, InWindow]
  refine ⟨?twoDigits, ?inWindow⟩
  case twoDigits =>
    intro ⟨lo, hi⟩
    have notBefore : 10956 < epochDays t := gregorianYear_mono.reflect_lt (by omega)
    have notAfter : epochDays t < 47482 := gregorianYear_mono.reflect_lt (by omega)
    omega
  case inWindow =>
    intro ⟨lo, hi⟩
    have notBefore : gregorianYear 10957 ≤ gregorianYear (epochDays t) := gregorianYear_mono (by omega)
    have notAfter : gregorianYear (epochDays t) ≤ gregorianYear 47481 := gregorianYear_mono (by omega)
    omega

/-- Settles O36: the weekday is in 0..6. -/
theorem fieldWdayReturnsTheWeekday : Obligations.FieldWdayReturnsTheWeekday := by
  intro s streaming position
  obtain ⟨lo, hi⟩ := civil_wday_range s.now.toInt
  exact ⟨exec_fieldAt_inRange 3 lo (hi.trans (by decide)), exec_rdData_eq_fieldAt streaming position,
    civil_wday s.now.toInt, lo, hi⟩

/-- Settles O28: every clause is arithmetic on the number that the two nibbles write. -/
theorem bcdShowsTheTwoDecimalDigits : Obligations.BcdShowsTheTwoDecimalDigits := by
  intro v twoDigits
  have value := bcd_toNat twoDigits
  refine ⟨value, by omega, by omega, by omega, ?increasing⟩
  intro u smaller
  have valueSmaller := bcd_toNat (smaller.le.trans twoDigits)
  rw [BitVec.lt_def]
  omega

/-- Settles O32: the mode decides whether TIME or the host clock answers. -/
theorem nowIsTimeOrAFreshHostAnswer : Obligations.NowIsTimeOrAFreshHostAnswer := by
  intro s
  refine ⟨?simulated, ?supplied, ?unsupplied⟩
  case simulated => exact fun simulated => ⟨State.now_simulated simulated, State.afterNow_simulated simulated⟩
  case supplied =>
    intro h rest realtime answers
    rw [State.now_realtime realtime, State.hostAnswer_cons answers, State.afterNow_realtime realtime, State.askHost,
      answers]
    exact ⟨rfl, rfl⟩
  case unsupplied =>
    intro realtime answers
    rw [State.now_realtime realtime, State.hostAnswer_nil answers, State.afterNow_realtime realtime, State.askHost,
      answers]
    exact ⟨rfl, rfl⟩

end Sys2Proof.Calendar
end

section
/-!
SUPPORT. Sequences of ADVANCE and of other operations (42_clock_accumulator.md R143 to R145): what a completed operation
adds to TIME and leaves in ACC, that two calls of ADVANCE are one with the sum of the counts, and whole seconds.
-/

namespace Sys2Proof.Machine

/-! ### One ADVANCE that completes -/

/-- R143, R148: in simulated mode ADVANCE completes only up to the end of time, in the state that its closed form
says. -/
theorem advance_completes_simulated {n : Nat} {s t : State} (simulated : s.mode = .simulated)
    (h : exec (.advance n) s = .next t) :
    s.time.toInt + ((s.acc + n) / 3072000 : Nat) ≤ 9223372036854775807 ∧
    t = { s with
      time := BitVec.ofInt 64 (s.time.toInt + ((s.acc + n) / 3072000 : Nat)), acc := (s.acc + n) % 3072000 } := by
  have inTime : s.time.toInt + ((s.acc + n) / 3072000 : Nat) ≤ 9223372036854775807 := by
    by_contra late
    have refused := (exec_advance_refused_iff n s).2 ((timeOverflows_iff n s).2 ⟨simulated, not_le.1 late⟩)
    rw [refused] at h
    cases h
  exact ⟨inTime, exec_next_unique (exec_advance_simulated simulated inTime) h⟩

theorem cyclesOf_of_isPortOp {i : Instr} (port : isPortOp i = true) : cyclesOf i = 0 := by
  cases i with
  | advance n => cases port
  | _ => rfl

/-- R145: the cycles of one operation that is no INIT, in simulated mode. -/
theorem exec_simulated_clock {i : Instr} {s t : State} (simulated : s.mode = .simulated) (remainder : s.acc < 3072000)
    (noInit : isInit i = false) (h : exec i s = .next t) :
    t.time.toInt = s.time.toInt + ((s.acc + cyclesOf i) / 3072000 : Nat) ∧ t.acc = (s.acc + cyclesOf i) % 3072000 := by
  rcases isPortOp_or_lifecycle i with port | ⟨a, rt, rfl⟩ | ⟨n, rfl⟩
  · obtain ⟨_, time, acc⟩ := exec_portOp_keeps_clock port h
    rw [time, acc, cyclesOf_of_isPortOp port]
    omega
  · cases noInit
  · obtain ⟨inTime, rfl⟩ := advance_completes_simulated simulated h
    exact ⟨toInt_ofInt_add_seconds inTime, rfl⟩

/-! ### Two calls of ADVANCE -/

/-- R144: after a call that completes, a second one does what one call with both counts does. -/
theorem exec_advance_add {n : Nat} {s t : State} (h : exec (.advance n) s = .next t) (m : Nat) :
    exec (.advance m) t = exec (.advance (n + m)) s := by
  cases mode : s.mode with
  | realtime =>
    obtain rfl := exec_next_unique (exec_advance_realtime mode n) h
    rw [exec_advance_realtime mode, exec_advance_realtime mode]
  | simulated =>
    obtain ⟨inTime, rfl⟩ := advance_completes_simulated mode h
    have time := toInt_ofInt_add_seconds inTime
    generalize first : BitVec.ofInt 64 (s.time.toInt + ((s.acc + n) / 3072000 : Nat)) = now at time ⊢
    have sum : now.toInt + (((s.acc + n) % 3072000 + m) / 3072000 : Nat) =
        s.time.toInt + ((s.acc + (n + m)) / 3072000 : Nat) := by
      omega
    by_cases inTimeBoth : s.time.toInt + ((s.acc + (n + m)) / 3072000 : Nat) ≤ 9223372036854775807
    · have remainder : ((s.acc + n) % 3072000 + m) % 3072000 = (s.acc + (n + m)) % 3072000 := by omega
      rw [exec_advance_simulated mode inTimeBoth,
        exec_advance_simulated (s := { s with time := now, acc := (s.acc + n) % 3072000 }) mode (sum ▸ inTimeBoth)]
      simp only [sum, remainder]
    · have late := not_le.1 inTimeBoth
      have lateSecond : timeOverflows m { s with time := now, acc := (s.acc + n) % 3072000 } = true :=
        (timeOverflows_iff m _).2 ⟨mode, late.trans_eq sum.symm⟩
      rw [(exec_advance_refused_iff _ s).2 ((timeOverflows_iff _ s).2 ⟨mode, late⟩),
        (exec_advance_refused_iff m _).2 lateSecond]

/-- R144, R148: a call that passes the end of time does so with further cycles as well. -/
theorem exec_advance_refused_add {n : Nat} {s : State} {r : Refusal} (h : exec (.advance n) s = .refused r) (m : Nat) :
    exec (.advance (n + m)) s = .refused r := by
  have overflows : timeOverflows n s = true := by
    by_contra inTime
    rw [exec_advance, if_neg inTime] at h
    cases h
  have reason : r = .timeOverflow := by
    rw [(exec_advance_refused_iff n s).2 overflows] at h
    cases h
    rfl
  obtain ⟨simulated, late⟩ := (timeOverflows_iff n s).1 overflows
  have more : (s.acc + n) / 3072000 ≤ (s.acc + (n + m)) / 3072000 := by omega
  rw [reason, exec_advance_refused_iff, timeOverflows_iff]
  exact ⟨simulated, by omega⟩

/-- R141 corner case a: the invariant leaves no second to carry. -/
theorem exec_advance_zero {s : State} (inv : s.Inv) : exec (.advance 0) s = .next s := by
  obtain ⟨remainder, _⟩ := inv
  cases mode : s.mode with
  | realtime => exact exec_advance_realtime mode 0
  | simulated =>
    have small : s.acc < 3072000 := remainder
    have bound := toInt_le_maxSeconds s.time
    rw [exec_advance_simulated mode (by omega), add_zero, Nat.div_eq_of_lt small, Nat.mod_eq_of_lt small, Nat.cast_zero,
      add_zero, BitVec.ofInt_toInt]

/-- R144: any number of calls. -/
theorem execAll_advances (ns : List Nat) {s : State} (inv : s.Inv) :
    execAll (ns.map .advance) s = exec (.advance ns.sum) s := by
  induction ns generalizing s with
  | nil => exact (exec_advance_zero inv).symm
  | cons n rest ih =>
    rw [List.map_cons, List.sum_cons]
    cases first : exec (.advance n) s with
    | next t => rw [execAll_cons_next first, ih (exec_keeps_inv inv first), exec_advance_add first]
    | fault r => cases r
    | refused r => rw [execAll, first, exec_advance_refused_add first]

/-! ### Whole seconds -/

/-- R143: whole seconds of cycles move TIME and keep the remainder. -/
theorem exec_advance_wholeSeconds {k : Nat} {s : State} (simulated : s.mode = .simulated) (remainder : s.acc < 3072000)
    (inTime : s.time.toInt + k ≤ 9223372036854775807) :
    exec (.advance (3072000 * k)) s = .next { s with time := BitVec.ofInt 64 (s.time.toInt + k) } := by
  have seconds : (s.acc + 3072000 * k) / 3072000 = k := by omega
  have rest : (s.acc + 3072000 * k) % 3072000 = s.acc := by omega
  rw [exec_advance_simulated simulated (by rwa [seconds]), seconds, rest]

theorem State.inv_of_simulated {s : State} (simulated : s.mode = .simulated) (remainder : s.acc < 3072000) : s.Inv :=
  ⟨remainder, fun realtime => by simp [simulated] at realtime⟩

end Sys2Proof.Machine
end

section
/-!
The statements about sequences of operations and the clock (42_clock_accumulator.md R141, R143 to R145, 30_encoding.md
R72).
-/

namespace Sys2Proof.ClockSequences
open Sys2Proof.Machine

/-- Settles O48, by the closed form, whose sum is exact up to the end of time. -/
theorem advanceCarriesWholeSeconds : Obligations.AdvanceCarriesWholeSeconds :=
  fun _ _ simulated inTime => ⟨_, exec_advance_simulated simulated inTime, toInt_ofInt_add_seconds inTime⟩

/-- Settles O51: nothing is carried and the remainder stays. -/
theorem advanceZeroChangesNothing : Obligations.AdvanceZeroChangesNothing :=
  fun _ => exec_advance_zero

/-- Settles O52, by induction on the sequence: each call joins the sum of those after it. -/
theorem advanceDoesNotDependOnTheSplit : Obligations.AdvanceDoesNotDependOnTheSplit :=
  fun ns _ => execAll_advances ns

/-- Settles O53: by O52 the calls are one of `k` seconds of cycles. -/
theorem advancingBySecondsKeepsTheRemainder : Obligations.AdvancingBySecondsKeepsTheRemainder := by
  intro k s simulated remainder inTime
  have calls : advanceSeconds k = (List.replicate k Config.cyclesPerSecond).map .advance := List.map_replicate.symm
  have sum : (List.replicate k Config.cyclesPerSecond).sum = 3072000 * k := by
    rw [List.sum_replicate, smul_eq_mul, mul_comm]
    rfl
  refine ⟨_, ?runs, toInt_ofInt_add_seconds inTime⟩
  rw [calls, execAll_advances _ (State.inv_of_simulated simulated remainder), sum,
    exec_advance_wholeSeconds simulated remainder inTime]

/-- Settles O54, by induction on the sequence: the remainder of one operation is carried into the next. -/
theorem interleavedPortAccessesDoNotDisturbTheClock : Obligations.InterleavedPortAccessesDoNotDisturbTheClock := by
  intro is s t simulated remainder noInits h
  induction is generalizing s with
  | nil =>
    rw [next_inj h, List.map_nil, List.sum_nil]
    omega
  | cons i rest ih =>
    obtain ⟨u, first, others⟩ := execAll_cons_completes h
    have noInit := noInits i List.mem_cons_self
    obtain ⟨time, acc⟩ := exec_simulated_clock simulated remainder noInit first
    obtain ⟨timeRest, accRest⟩ := ih u ((exec_keeps_mode noInit first).trans simulated) (by omega)
      (fun j hj => noInits j (List.mem_cons_of_mem i hj)) others
    rw [List.map_cons, List.sum_cons]
    omega

end Sys2Proof.ClockSequences
end

section
/-!
The statements about command bytes in Idle (40_register_interface.md R97, R101).
-/

namespace Sys2Proof.Idle
open Sys2Proof.Machine

/-- Settles O21: the byte is stored, CMD then selects Idle, and the read after it is the echo. -/
theorem cmdOtherSelectsTheEcho : Obligations.CmdOtherSelectsTheEcho := by
  intro v s other
  have write : writeCommand v s = { s with cmd := v } := by rw [writeCommand_eq, if_neg other]
  have command : exec (.cmdOther v) s = .next { s with cmd := v } := by rw [exec_cmdOther, write]
  refine ⟨command, by rw [exec_wrCmd, write], (State.fsm_eq_idle _).2 other, ?echo⟩
  rw [execAll_pair_next command, exec_rdData_idle (s := { s with cmd := v }) other, echoData_eq]

/-- Settles O23, operation by operation: the FSM stays in Idle, so both data-port reads are echoes. -/
theorem commandAndDataRoundTripInIdle : Obligations.CommandAndDataRoundTripInIdle := by
  intro v d s other
  have idle (t : State) (h : t.cmd = v) : exec .rdData t = .next (echoData t) := exec_rdData_idle (h ▸ other)
  rw [List.cons_append, List.cons_append, List.cons_append, List.nil_append, echoPair,
    execAll_cons_next (exec_wrCmd s v), writeCommand_eq, if_neg other, execAll_cons_next (exec_rdCmd _),
    execAll_cons_next (idle _ rfl), execAll_pair_next (exec_wrData _ d), idle _ rfl]
  simp only [echoData_eq, withStatus_eq, State.respond, State.setData, List.append_assoc, List.cons_append,
    List.nil_append]

end Sys2Proof.Idle
end

section
/-!
SUPPORT. Passes through the time-field sequence (41_time_streamer.md section 6): one data-port read of Streaming with
the byte that it returns, and any number of them, in simulated mode (as operations and as calls served by steps) and in
real-time mode.
-/

namespace Sys2Proof.Machine

/-! ### The byte of a field -/

/-- R117: the byte that the field at `k` of the instant `t` is returned as. -/
def fieldByte (t : Int) (k : Cursor) : Byte := bcd ((civil t).field k).toNat

/-- R113: every field has two digits, the year in the window. -/
theorem civil_field_range {t : Int} {k : Cursor} (window : k = 0 → InWindow t) :
    0 ≤ (civil t).field k ∧ (civil t).field k ≤ 99 := by
  have year : k = 0 → 0 ≤ (civil t).year - 100 ∧ (civil t).year - 100 ≤ 99 := fun first =>
    (Calendar.theYearFieldHasTwoDigitsExactlyInTheWindow t).2 (window first)
  obtain ⟨monthLo, monthHi, dayLo, dayHi, weekdayLo, weekdayHi, hourLo, hourHi, minuteLo, minuteHi, secondLo,
    secondHi⟩ := Calendar.calendarFieldsStayInTheirRanges t
  match k with
  | 0 => exact year rfl
  | 1 => exact ⟨monthLo, monthHi.trans (by decide)⟩
  | 2 => exact ⟨le_trans (by decide) dayLo, dayHi.trans (by decide)⟩
  | 3 => exact ⟨weekdayLo, weekdayHi.trans (by decide)⟩
  | 4 => exact ⟨hourLo, hourHi.trans (by decide)⟩
  | 5 => exact ⟨minuteLo, minuteHi.trans (by decide)⟩
  | 6 => exact ⟨secondLo, secondHi.trans (by decide)⟩

/-! ### One data-port read of Streaming -/

/-- R117: where the field has two digits, its byte is returned and nothing is drawn. -/
theorem exec_rdData_shows {s : State} (streaming : s.cmd = 0x15#8) (window : s.cursor = 0 → InWindow s.now.toInt) :
    exec .rdData s = .next { s.afterNow with
      cursor := s.cursor + 1, returned := s.returned ++ [fieldByte s.now.toInt s.cursor] } := by
  obtain ⟨lo, hi⟩ := civil_field_range window
  rw [exec_rdData_eq_fieldAt streaming rfl, exec_fieldAt_inRange s.cursor lo hi, nextCursor_eq]
  rfl

/-- The state after a read that returns the byte of the field at CURSOR of TIME. -/
def State.afterRead (s : State) : State :=
  { s with cursor := s.cursor + 1, returned := s.returned ++ [fieldByte s.time.toInt s.cursor] }

theorem exec_rdData_simulated {s : State} (streaming : s.cmd = 0x15#8) (simulated : s.mode = .simulated)
    (window : s.cursor = 0 → InWindow s.time.toInt) :
    exec .rdData s = .next s.afterRead := by
  have now := State.now_simulated simulated
  rw [exec_rdData_shows streaming (now ▸ window), now, State.afterNow_simulated simulated, State.afterRead]

/-- The state after a read that returns the byte of the field at CURSOR of the answer `h`; `rest` is still supplied. -/
def State.afterAnswer (h : Seconds) (rest : List Seconds) (s : State) : State :=
  { s with
    cursor := s.cursor + 1, hostAnswers := rest, hostQueries := s.hostQueries + 1
    returned := s.returned ++ [fieldByte h.toInt s.cursor] }

/-- R135: in real-time mode the field is that of the next supplied answer, which is used up. -/
theorem exec_rdData_realtime {s : State} {h : Seconds} {rest : List Seconds} (streaming : s.cmd = 0x15#8)
    (realtime : s.mode = .realtime) (answers : s.hostAnswers = h :: rest) (window : s.cursor = 0 → InWindow h.toInt) :
    exec .rdData s = .next (s.afterAnswer h rest) := by
  have now : s.now = h := by rw [State.now_realtime realtime, State.hostAnswer_cons answers]
  rw [exec_rdData_shows streaming (now ▸ window), now, State.afterNow_realtime realtime, State.askHost, answers]
  rfl

/-- R115, R117 in simulated mode whatever the year: the byte is the field's where that has two digits. -/
theorem exec_rdData_simulated_cases {s : State} (streaming : s.cmd = 0x15#8) (simulated : s.mode = .simulated) :
    ∃ b d, exec .rdData s = .next { s with cursor := s.cursor + 1, draws := d, returned := s.returned ++ [b] } ∧
      ((s.cursor = 0 → InWindow s.time.toInt) → b = fieldByte s.time.toInt s.cursor) := by
  by_cases window : s.cursor = 0 → InWindow s.time.toInt
  · exact ⟨_, s.draws, exec_rdData_simulated streaming simulated window, fun _ => rfl⟩
  · obtain ⟨b, d, read⟩ := streamField_cases s.cursor s
    refine ⟨b, d, ?runs, fun inWindow => absurd inWindow window⟩
    rw [exec_rdData_streaming streaming, read, State.afterNow_simulated simulated, nextCursor_eq]

/-! ### Any number of reads in simulated mode -/

/-- The bytes of `n` reads from the position `k` on, all of the instant `t`. -/
def fieldBytes (t : Int) (k : Cursor) (n : Nat) : List Byte :=
  match n with
  | 0 => []
  | n + 1 => fieldByte t k :: fieldBytes t (k + 1) n

/-- R125: one position and then `n` more. -/
theorem cursor_add_succ (k : Cursor) (n : Nat) : k + 1 + Fin.ofNat nFields n = k + Fin.ofNat nFields (n + 1) :=
  Fin.ext (show ((k.val + 1) % 7 + n % 7) % 7 = (k.val + (n + 1) % 7) % 7 by omega)

/-- The state after `n` such reads. -/
def State.afterReads (n : Nat) (s : State) : State :=
  { s with
    cursor := s.cursor + Fin.ofNat nFields n
    returned := s.returned ++ fieldBytes s.time.toInt s.cursor n }

theorem State.afterReads_zero (s : State) : s.afterReads 0 = s := by
  simp [State.afterReads, fieldBytes]

theorem State.afterReads_afterRead (n : Nat) (s : State) : s.afterRead.afterReads n = s.afterReads (n + 1) := by
  simp only [State.afterReads, State.afterRead, fieldBytes, cursor_add_succ, List.append_assoc, List.cons_append,
    List.nil_append]

/-- R133, R136: each read of a sequence shows the field at its own position. -/
theorem execAll_reads (n : Nat) {s : State} (streaming : s.cmd = 0x15#8) (simulated : s.mode = .simulated)
    (window : InWindow s.time.toInt) : execAll (List.replicate n .rdData) s = .next (s.afterReads n) := by
  induction n generalizing s with
  | zero => rw [State.afterReads_zero]; rfl
  | succ n ih =>
    have first := exec_rdData_simulated streaming simulated fun _ => window
    rw [List.replicate_succ, execAll_cons_next first, ih (s := s.afterRead) streaming simulated window,
      State.afterReads_afterRead]

/-- R50, R134: the same reads as calls of the bus master, each served by one step. -/
theorem runSteps_reads (n : Nat) {s : State} {rest : List Arrival} (created : s.created = true)
    (streaming : s.cmd = 0x15#8) (simulated : s.mode = .simulated) (window : InWindow s.time.toInt)
    (pending : s.inbox = List.replicate n (.one (.read Config.dataPort 1)) ++ rest) :
    runSteps n s = .next (({ s with inbox := rest } : State).afterReads n) := by
  induction n generalizing s with
  | zero =>
    obtain rfl : s.inbox = rest := pending
    rw [State.afterReads_zero]
    rfl
  | succ n ih =>
    let u : State := { s with inbox := List.replicate n (.one (.read Config.dataPort 1)) ++ rest }
    have first : step s = .next u.afterRead :=
      (step_runs_oldest pending Call.instr_read_dataPort (.inl created)).trans
        (exec_rdData_simulated (s := u) streaming simulated fun _ => window)
    rw [runSteps_succ_next first, ih (s := u.afterRead) created streaming simulated window rfl,
      ← State.afterReads_afterRead]
    rfl

/-- R136: the cursor comes back to the year after seven reads. -/
theorem fieldBytes_passes (t : Int) (k : Nat) :
    fieldBytes t 0 (7 * k + 1) = (List.replicate k (fieldBytes t 0 7)).flatten ++ [fieldByte t 0] := by
  induction k with
  | zero => rfl
  | succ k ih =>
    have pass (n : Nat) : fieldBytes t 0 (n + 7) = fieldBytes t 0 7 ++ fieldBytes t 0 n := rfl
    have count : 7 * (k + 1) + 1 = 7 * k + 1 + 7 := by omega
    rw [count, pass, ih, List.replicate_succ, List.flatten_cons, List.append_assoc]

/-! ### Any number of reads in real-time mode -/

/-- The bytes of one read for each answer, from the position `k` on. -/
def answerBytes (k : Cursor) (answers : List Seconds) : List Byte :=
  match answers with
  | [] => []
  | h :: rest => fieldByte h.toInt k :: answerBytes (k + 1) rest

/-- R115: the answers that a year read meets are in the window. -/
def YearsInWindow (k : Cursor) (answers : List Seconds) : Prop :=
  match answers with
  | [] => True
  | h :: rest => (k = 0 → InWindow h.toInt) ∧ YearsInWindow (k + 1) rest

/-- The state after one read for each of the answers `hs`, with `rest` still supplied. -/
def State.afterAnswers (hs rest : List Seconds) (s : State) : State :=
  { s with
    cursor := s.cursor + Fin.ofNat nFields hs.length, hostAnswers := rest, hostQueries := s.hostQueries + hs.length
    returned := s.returned ++ answerBytes s.cursor hs }

theorem State.afterAnswers_afterAnswer (h : Seconds) (hs rest : List Seconds) (s : State) :
    (s.afterAnswer h (hs ++ rest)).afterAnswers hs rest = s.afterAnswers (h :: hs) rest := by
  have asked : s.hostQueries + 1 + hs.length = s.hostQueries + (hs.length + 1) := by omega
  simp only [State.afterAnswers, State.afterAnswer, answerBytes, cursor_add_succ, asked, List.length_cons,
    List.append_assoc, List.cons_append, List.nil_append]

/-- R135: each read of a sequence shows the field at its own position of its own answer. -/
theorem execAll_reads_realtime (hs : List Seconds) {s : State} {rest : List Seconds} (streaming : s.cmd = 0x15#8)
    (realtime : s.mode = .realtime) (answers : s.hostAnswers = hs ++ rest) (window : YearsInWindow s.cursor hs) :
    execAll (List.replicate hs.length .rdData) s = .next (s.afterAnswers hs rest) := by
  induction hs generalizing s with
  | nil =>
    obtain rfl : s.hostAnswers = rest := answers
    simp [State.afterAnswers, answerBytes, execAll_nil]
  | cons h hs ih =>
    obtain ⟨windowFirst, windowRest⟩ := window
    have first : exec .rdData s = .next (s.afterAnswer h (hs ++ rest)) :=
      exec_rdData_realtime streaming realtime answers windowFirst
    rw [List.length_cons, List.replicate_succ, execAll_cons_next first,
      ih (s := s.afterAnswer h (hs ++ rest)) streaming realtime rfl windowRest, State.afterAnswers_afterAnswer]

end Sys2Proof.Machine
end

section
/-!
The statements about passes through the time-field sequence (41_time_streamer.md R125, R133 to R135, R184, R185).
-/

namespace Sys2Proof.Passes
open Sys2Proof.Machine

/-- Settles O42: the cycles between the reads are whole seconds, and each read shows TIME as it then is. -/
theorem aStreamingReadShowsTheTimeAtThatRead : Obligations.AStreamingReadShowsTheTimeAtThatRead := by
  intro s k streaming simulated remainder inTime
  obtain ⟨b, d, first, byteFirst⟩ := exec_rdData_simulated_cases streaming simulated
  generalize hu : ({ s with cursor := s.cursor + 1, draws := d, returned := s.returned ++ [b] } : State) = u at first
  have carried : exec (.advance (3072000 * k)) u = .next { u with time := BitVec.ofInt 64 (s.time.toInt + k) } := by
    subst hu
    exact exec_advance_wholeSeconds simulated remainder inTime
  obtain ⟨c, e, second, byteSecond⟩ := exec_rdData_simulated_cases
    (s := { u with time := BitVec.ofInt 64 (s.time.toInt + k) }) (hu ▸ streaming) (hu ▸ simulated)
  refine ⟨b, c, e, ?runs, byteFirst, ?second⟩
  case runs =>
    have cursor : s.cursor + 1 + 1 = s.cursor + 2 := add_assoc s.cursor 1 1
    rw [execAll_cons_next first, execAll_pair_next carried, second, ← hu]
    simp only [cursor, List.append_assoc, List.cons_append, List.nil_append]
  case second =>
    intro window
    have wraps : ∀ c : Cursor, c + 1 = 0 → c = 6 := by decide
    subst hu
    rw [toInt_ofInt_add_seconds inTime] at byteSecond
    exact byteSecond fun year => window (wraps s.cursor year)

/-- Settles O43: each seven reads add the same bytes. -/
theorem readsPastTheSeventhRestartAtTheYear : Obligations.ReadsPastTheSeventhRestartAtTheYear := by
  intro k s streaming first simulated window
  have cursor : (0 : Cursor) + Fin.ofNat nFields (7 * k + 1) = 1 :=
    Fin.ext (show (0 + (7 * k + 1) % 7) % 7 = 1 by omega)
  rw [execAll_reads _ streaming simulated window, State.afterReads, first, cursor, fieldBytes_passes,
    ← List.append_assoc]
  rfl

/-- Settles O44: the first step arms the stream, and the seven steps after it serve the reads. -/
theorem aCleanPassThroughThePorts : Obligations.ACleanPassThroughThePorts := by
  intro s rest created simulated window pending
  have armed := step_runs_oldest pending (Call.instr_write_cmdPort 0x15#8) (.inl created)
  rw [exec_wrCmd, writeCommand_eq, if_pos rfl] at armed
  exact (runSteps_succ_next armed).trans (runSteps_reads 7 created rfl simulated window rfl)

/-- Settles O45: after the command byte, read by read with the next answer; only the first meets the year. -/
theorem aRealtimePassSamplesTheHostClockSevenTimes : Obligations.ARealtimePassSamplesTheHostClockSevenTimes := by
  intro s h0 h1 h2 h3 h4 h5 h6 rest realtime answers window
  have armed : exec (.wrCmd Config.streamCmd) s = .next { s with cmd := 0x15#8, cursor := 0 } := by
    rw [exec_wrCmd, writeCommand_eq]
    rfl
  have years : YearsInWindow 0 [h0, h1, h2, h3, h4, h5, h6] :=
    ⟨fun _ => window, nofun, nofun, nofun, nofun, nofun, nofun, trivial⟩
  have reads := execAll_reads_realtime (s := { s with cmd := 0x15#8, cursor := 0 }) _ rfl realtime answers years
  have seven : [h0, h1, h2, h3, h4, h5, h6].length = 7 := rfl
  rw [State.afterAnswers, seven] at reads
  exact (execAll_cons_next armed).trans reads

end Sys2Proof.Passes
end
